-- ==== Sys2Proof/Word.lean ====
section
/-! DEFINITION. The two word types (00_scope.md R5): registers, memory bytes and ports are 8 bits wide, `PC`, `SP`,
register pairs and addresses 16. Everything that splits, joins or tests bits stands in Machine/Bits.lean. -/

namespace Sys2Proof

/-- An 8-bit value, an integer 0 to 255 (00_scope.md R5). -/
abbrev Byte := BitVec 8

/-- A 16-bit value, an integer 0 to 65535 (00_scope.md R5). -/
abbrev Word := BitVec 16

end Sys2Proof
end

