-- ==== Sys2Proof/Machine/Bits.lean ====
section
/-! DEFINITION. Splitting and joining 16-bit values, and the bit fields of the opcode byte. Byte order is decided
here and in the operations that call these: the first-named half is the high one (00_scope.md R5, 10_state.md R12,
20_memory.md R43). -/

namespace Sys2Proof

/-- `h:l = h * 256 + l` (00_scope.md R5). -/
def joinBytes (hi lo : Byte) : Word := BitVec.ofNat 16 (hi.toNat * 256 + lo.toNat)

/-- `v[15:8]` (00_scope.md R5). -/
def hiByte (v : Word) : Byte := BitVec.ofNat 8 (v.toNat / 256)

/-- `v[7:0]` (00_scope.md R5). -/
def loByte (v : Word) : Byte := BitVec.ofNat 8 (v.toNat % 256)

/-- The group bits `qq`, 7:6 (30_encoding.md R72). -/
def fieldQQ (op : Byte) : Nat := op.toNat / 64

/-- The bits 5:3, `ddd`, `ooo`, `ccc` or `nnn` (30_encoding.md R72). -/
def fieldMid (op : Byte) : Nat := op.toNat / 8 % 8

/-- The bits 2:0, `sss` (30_encoding.md R72). -/
def fieldLow (op : Byte) : Nat := op.toNat % 8

/-- The pair bits 5:4, `rp` (30_encoding.md R72). -/
def fieldRp (op : Byte) : Nat := op.toNat / 16 % 4

/-- Bit 3, which tells `LXI` from `DAD`, `INX` from `DCX`, `STAX` from `LDAX` and so on (30_encoding.md R80). -/
def fieldBit3 (op : Byte) : Nat := op.toNat / 8 % 2

end Sys2Proof
end

