-- ==== Sys2Proof/Config.lean ====
section
/-! DEFINITION. What is fixed for a whole run (00_scope.md R4), and the one value the spec leaves free at every step
(the byte an `IN` returns, 20_memory.md R50). `INIT_MEM` is no constant here: it is the memory of the state a run
starts from (log entry 3). `ENTRY_PC` and `ENTRY_SP` are arguments of the reset transition (70_reset_and_hazards.md
R280, log entry 2); here stand their defaults. -/

namespace Sys2Proof

/-- What the 12 undocumented first bytes do (00_scope.md R4 `UNDOC_POLICY`, 30_encoding.md R78). -/
inductive UndocPolicy where
  /-- raise `UnimplementedOpcode` (the default) -/
  | fault
  /-- execute as the instruction the byte aliases on the Intel 8080 -/
  | aliased
  deriving DecidableEq, Repr

/-- The parameters a run is made with (00_scope.md R4). DESIGN CHOICE (safe, log entry 1): State carries them as plain
data that no step and no host move changes, so that one `step` covers every value of them. -/
structure Config where
  /-- `MEM_SIZE`: addresses 0 to `memSize - 1` exist (20_memory.md R40) -/
  memSize : Nat
  /-- `UNDOC_POLICY` (46_interrupt_machine_control.md R238) -/
  undocPolicy : UndocPolicy
  deriving DecidableEq, Repr

/-- The defaults of 00_scope.md R4: 64 KiB, policy `fault`. -/
def Config.default : Config := { memSize := 65536, undocPolicy := .fault }

/-- The default `ENTRY_PC` (00_scope.md R4). -/
def Config.entryPc : Word := 0x0000

/-- The default `ENTRY_SP` (00_scope.md R4). -/
def Config.entrySp : Word := 0x0000

/-- FREE VALUE (log entry 4): the byte the host supplies at the `n`-th `IN` of the run from input port `port`, where
nothing is known of the host's table (20_memory.md R50: "a free 8-bit value at each `IN` step"). It has no body: no
proof can see a value of it. -/
opaque Config.freeInput (n : Nat) (port : Byte) : Byte

end Sys2Proof
end

