-- ==== Sys2Proof/Syntax.lean ====
section
/-! DEFINITION. The instruction set as syntax: one constructor per row of spec/opcode_table.json (256 rows, one per
value of the first byte, 30_encoding.md R73 and R80), and the small types the spec's field codes name: registers
(R74), register pairs (R75), conditions (R79), ALU operations (R81), 8-bit sources. An operand is the immediate the
instruction's own bytes hold, and nothing else: `d8` and `p8` are `imm8` (R76), `d16` and `a16` are `imm16` (R77).
The 12 undocumented bytes have no operand: under the policy `fault` none is read, and under `alias` their meaning
reads its own (46_interrupt_machine_control.md R238; log entry 12). -/

namespace Sys2Proof

/-- The seven 8-bit registers (10_state.md R10). -/
inductive Reg8 where
  | a | b | c | d | e | h | l
  deriving DecidableEq, Repr

/-- The three register pairs, 16-bit views of two registers each (10_state.md R12). -/
inductive RegPair where
  | bc | de | hl
  deriving DecidableEq, Repr

/-- What a 2-bit pair code names in `LXI`, `INX`, `DCX`, `DAD` (30_encoding.md R75): a pair, or `SP`. -/
inductive Pair16 where
  | bc | de | hl | sp
  deriving DecidableEq, Repr

/-- The pairs `LDAX` and `STAX` address memory through (30_encoding.md R75, last row). -/
inductive IndPair where
  | bc | de
  deriving DecidableEq, Repr

/-- The eight conditions of `Jcc`, `Ccc`, `Rcc` (30_encoding.md R79). -/
inductive Cond where
  | nz | z | nc | c | po | pe | p | m
  deriving DecidableEq, Repr

/-- The eight ALU operations of groups `10ooosss` and `11ooo110` (30_encoding.md R81). -/
inductive AluOp where
  | add | adc | sub | sbb | ana | xra | ora | cmp
  deriving DecidableEq, Repr

/-- An 8-bit source operand: a register, the memory byte `M` at `HL` (30_encoding.md R74), or `imm8` (R76). -/
inductive Src8 where
  | reg (r : Reg8)
  | m
  | imm (v : Byte)
  deriving DecidableEq, Repr

/-- The instructions: the three-byte rows (format F3, 30_encoding.md R71), the two-byte rows (F2), then the one-byte
rows (F1), each in the order of the first byte. -/
inductive Instr where
  /-- `01` LXI B,d16 (R105) -/
  | lxiB (d16 : Word)
  /-- `11` LXI D,d16 (R105) -/
  | lxiD (d16 : Word)
  /-- `21` LXI H,d16 (R105) -/
  | lxiH (d16 : Word)
  /-- `22` SHLD a16 (R109) -/
  | shld (a16 : Word)
  /-- `2A` LHLD a16 (R108) -/
  | lhld (a16 : Word)
  /-- `31` LXI SP,d16 (R105) -/
  | lxiSP (d16 : Word)
  /-- `32` STA a16 (R107) -/
  | sta (a16 : Word)
  /-- `3A` LDA a16 (R106) -/
  | lda (a16 : Word)
  /-- `C2` JNZ a16 (R200) -/
  | jnz (a16 : Word)
  /-- `C3` JMP a16 (R199) -/
  | jmp (a16 : Word)
  /-- `C4` CNZ a16 (R202) -/
  | cnz (a16 : Word)
  /-- `CA` JZ a16 (R200) -/
  | jz (a16 : Word)
  /-- `CC` CZ a16 (R202) -/
  | cz (a16 : Word)
  /-- `CD` CALL a16 (R201) -/
  | call (a16 : Word)
  /-- `D2` JNC a16 (R200) -/
  | jnc (a16 : Word)
  /-- `D4` CNC a16 (R202) -/
  | cnc (a16 : Word)
  /-- `DA` JC a16 (R200) -/
  | jc (a16 : Word)
  /-- `DC` CC a16 (R202) -/
  | cc (a16 : Word)
  /-- `E2` JPO a16 (R200) -/
  | jpo (a16 : Word)
  /-- `E4` CPO a16 (R202) -/
  | cpo (a16 : Word)
  /-- `EA` JPE a16 (R200) -/
  | jpe (a16 : Word)
  /-- `EC` CPE a16 (R202) -/
  | cpe (a16 : Word)
  /-- `F2` JP a16 (R200) -/
  | jp (a16 : Word)
  /-- `F4` CP a16 (R202) -/
  | cp (a16 : Word)
  /-- `FA` JM a16 (R200) -/
  | jm (a16 : Word)
  /-- `FC` CM a16 (R202) -/
  | cm (a16 : Word)
  /-- `06` MVI B,d8 (R103) -/
  | mviB (d8 : Byte)
  /-- `0E` MVI C,d8 (R103) -/
  | mviC (d8 : Byte)
  /-- `16` MVI D,d8 (R103) -/
  | mviD (d8 : Byte)
  /-- `1E` MVI E,d8 (R103) -/
  | mviE (d8 : Byte)
  /-- `26` MVI H,d8 (R103) -/
  | mviH (d8 : Byte)
  /-- `2E` MVI L,d8 (R103) -/
  | mviL (d8 : Byte)
  /-- `36` MVI M,d8 (R104) -/
  | mviM (d8 : Byte)
  /-- `3E` MVI A,d8 (R103) -/
  | mviA (d8 : Byte)
  /-- `C6` ADI d8 (R125) -/
  | adi (d8 : Byte)
  /-- `CE` ACI d8 (R128) -/
  | aci (d8 : Byte)
  /-- `D3` OUT p8 (R221) -/
  | outPort (p8 : Byte)
  /-- `D6` SUI d8 (R131) -/
  | sui (d8 : Byte)
  /-- `DB` IN p8 (R220) -/
  | inPort (p8 : Byte)
  /-- `DE` SBI d8 (R134) -/
  | sbi (d8 : Byte)
  /-- `E6` ANI d8 (R163) -/
  | ani (d8 : Byte)
  /-- `EE` XRI d8 (R166) -/
  | xri (d8 : Byte)
  /-- `F6` ORI d8 (R169) -/
  | ori (d8 : Byte)
  /-- `FE` CPI d8 (R148) -/
  | cpi (d8 : Byte)
  /-- `00` NOP (R237) -/
  | nop
  /-- `02` STAX B (R111) -/
  | staxB
  /-- `03` INX B (R140) -/
  | inxB
  /-- `04` INR B (R136) -/
  | inrB
  /-- `05` DCR B (R138) -/
  | dcrB
  /-- `07` RLC (R180) -/
  | rlc
  /-- `08` UNDOC_08 (R238) -/
  | undoc08
  /-- `09` DAD B (R142) -/
  | dadB
  /-- `0A` LDAX B (R110) -/
  | ldaxB
  /-- `0B` DCX B (R141) -/
  | dcxB
  /-- `0C` INR C (R136) -/
  | inrC
  /-- `0D` DCR C (R138) -/
  | dcrC
  /-- `0F` RRC (R181) -/
  | rrc
  /-- `10` UNDOC_10 (R238) -/
  | undoc10
  /-- `12` STAX D (R111) -/
  | staxD
  /-- `13` INX D (R140) -/
  | inxD
  /-- `14` INR D (R136) -/
  | inrD
  /-- `15` DCR D (R138) -/
  | dcrD
  /-- `17` RAL (R182) -/
  | ral
  /-- `18` UNDOC_18 (R238) -/
  | undoc18
  /-- `19` DAD D (R142) -/
  | dadD
  /-- `1A` LDAX D (R110) -/
  | ldaxD
  /-- `1B` DCX D (R141) -/
  | dcxD
  /-- `1C` INR E (R136) -/
  | inrE
  /-- `1D` DCR E (R138) -/
  | dcrE
  /-- `1F` RAR (R183) -/
  | rar
  /-- `20` UNDOC_20 (R238) -/
  | undoc20
  /-- `23` INX H (R140) -/
  | inxH
  /-- `24` INR H (R136) -/
  | inrH
  /-- `25` DCR H (R138) -/
  | dcrH
  /-- `27` DAA (R143) -/
  | daa
  /-- `28` UNDOC_28 (R238) -/
  | undoc28
  /-- `29` DAD H (R142) -/
  | dadH
  /-- `2B` DCX H (R141) -/
  | dcxH
  /-- `2C` INR L (R136) -/
  | inrL
  /-- `2D` DCR L (R138) -/
  | dcrL
  /-- `2F` CMA (R170) -/
  | cma
  /-- `30` UNDOC_30 (R238) -/
  | undoc30
  /-- `33` INX SP (R140) -/
  | inxSP
  /-- `34` INR M (R137) -/
  | inrM
  /-- `35` DCR M (R139) -/
  | dcrM
  /-- `37` STC (R172) -/
  | stc
  /-- `38` UNDOC_38 (R238) -/
  | undoc38
  /-- `39` DAD SP (R142) -/
  | dadSP
  /-- `3B` DCX SP (R141) -/
  | dcxSP
  /-- `3C` INR A (R136) -/
  | inrA
  /-- `3D` DCR A (R138) -/
  | dcrA
  /-- `3F` CMC (R171) -/
  | cmc
  /-- `40` MOV B,B (R100) -/
  | movBB
  /-- `41` MOV B,C (R100) -/
  | movBC
  /-- `42` MOV B,D (R100) -/
  | movBD
  /-- `43` MOV B,E (R100) -/
  | movBE
  /-- `44` MOV B,H (R100) -/
  | movBH
  /-- `45` MOV B,L (R100) -/
  | movBL
  /-- `46` MOV B,M (R101) -/
  | movBM
  /-- `47` MOV B,A (R100) -/
  | movBA
  /-- `48` MOV C,B (R100) -/
  | movCB
  /-- `49` MOV C,C (R100) -/
  | movCC
  /-- `4A` MOV C,D (R100) -/
  | movCD
  /-- `4B` MOV C,E (R100) -/
  | movCE
  /-- `4C` MOV C,H (R100) -/
  | movCH
  /-- `4D` MOV C,L (R100) -/
  | movCL
  /-- `4E` MOV C,M (R101) -/
  | movCM
  /-- `4F` MOV C,A (R100) -/
  | movCA
  /-- `50` MOV D,B (R100) -/
  | movDB
  /-- `51` MOV D,C (R100) -/
  | movDC
  /-- `52` MOV D,D (R100) -/
  | movDD
  /-- `53` MOV D,E (R100) -/
  | movDE
  /-- `54` MOV D,H (R100) -/
  | movDH
  /-- `55` MOV D,L (R100) -/
  | movDL
  /-- `56` MOV D,M (R101) -/
  | movDM
  /-- `57` MOV D,A (R100) -/
  | movDA
  /-- `58` MOV E,B (R100) -/
  | movEB
  /-- `59` MOV E,C (R100) -/
  | movEC
  /-- `5A` MOV E,D (R100) -/
  | movED
  /-- `5B` MOV E,E (R100) -/
  | movEE
  /-- `5C` MOV E,H (R100) -/
  | movEH
  /-- `5D` MOV E,L (R100) -/
  | movEL
  /-- `5E` MOV E,M (R101) -/
  | movEM
  /-- `5F` MOV E,A (R100) -/
  | movEA
  /-- `60` MOV H,B (R100) -/
  | movHB
  /-- `61` MOV H,C (R100) -/
  | movHC
  /-- `62` MOV H,D (R100) -/
  | movHD
  /-- `63` MOV H,E (R100) -/
  | movHE
  /-- `64` MOV H,H (R100) -/
  | movHH
  /-- `65` MOV H,L (R100) -/
  | movHL
  /-- `66` MOV H,M (R101) -/
  | movHM
  /-- `67` MOV H,A (R100) -/
  | movHA
  /-- `68` MOV L,B (R100) -/
  | movLB
  /-- `69` MOV L,C (R100) -/
  | movLC
  /-- `6A` MOV L,D (R100) -/
  | movLD
  /-- `6B` MOV L,E (R100) -/
  | movLE
  /-- `6C` MOV L,H (R100) -/
  | movLH
  /-- `6D` MOV L,L (R100) -/
  | movLL
  /-- `6E` MOV L,M (R101) -/
  | movLM
  /-- `6F` MOV L,A (R100) -/
  | movLA
  /-- `70` MOV M,B (R102) -/
  | movMB
  /-- `71` MOV M,C (R102) -/
  | movMC
  /-- `72` MOV M,D (R102) -/
  | movMD
  /-- `73` MOV M,E (R102) -/
  | movME
  /-- `74` MOV M,H (R102) -/
  | movMH
  /-- `75` MOV M,L (R102) -/
  | movML
  /-- `76` HLT (R236) -/
  | hlt
  /-- `77` MOV M,A (R102) -/
  | movMA
  /-- `78` MOV A,B (R100) -/
  | movAB
  /-- `79` MOV A,C (R100) -/
  | movAC
  /-- `7A` MOV A,D (R100) -/
  | movAD
  /-- `7B` MOV A,E (R100) -/
  | movAE
  /-- `7C` MOV A,H (R100) -/
  | movAH
  /-- `7D` MOV A,L (R100) -/
  | movAL
  /-- `7E` MOV A,M (R101) -/
  | movAM
  /-- `7F` MOV A,A (R100) -/
  | movAA
  /-- `80` ADD B (R123) -/
  | addB
  /-- `81` ADD C (R123) -/
  | addC
  /-- `82` ADD D (R123) -/
  | addD
  /-- `83` ADD E (R123) -/
  | addE
  /-- `84` ADD H (R123) -/
  | addH
  /-- `85` ADD L (R123) -/
  | addL
  /-- `86` ADD M (R124) -/
  | addM
  /-- `87` ADD A (R123) -/
  | addA
  /-- `88` ADC B (R126) -/
  | adcB
  /-- `89` ADC C (R126) -/
  | adcC
  /-- `8A` ADC D (R126) -/
  | adcD
  /-- `8B` ADC E (R126) -/
  | adcE
  /-- `8C` ADC H (R126) -/
  | adcH
  /-- `8D` ADC L (R126) -/
  | adcL
  /-- `8E` ADC M (R127) -/
  | adcM
  /-- `8F` ADC A (R126) -/
  | adcA
  /-- `90` SUB B (R129) -/
  | subB
  /-- `91` SUB C (R129) -/
  | subC
  /-- `92` SUB D (R129) -/
  | subD
  /-- `93` SUB E (R129) -/
  | subE
  /-- `94` SUB H (R129) -/
  | subH
  /-- `95` SUB L (R129) -/
  | subL
  /-- `96` SUB M (R130) -/
  | subM
  /-- `97` SUB A (R129) -/
  | subA
  /-- `98` SBB B (R132) -/
  | sbbB
  /-- `99` SBB C (R132) -/
  | sbbC
  /-- `9A` SBB D (R132) -/
  | sbbD
  /-- `9B` SBB E (R132) -/
  | sbbE
  /-- `9C` SBB H (R132) -/
  | sbbH
  /-- `9D` SBB L (R132) -/
  | sbbL
  /-- `9E` SBB M (R133) -/
  | sbbM
  /-- `9F` SBB A (R132) -/
  | sbbA
  /-- `A0` ANA B (R161) -/
  | anaB
  /-- `A1` ANA C (R161) -/
  | anaC
  /-- `A2` ANA D (R161) -/
  | anaD
  /-- `A3` ANA E (R161) -/
  | anaE
  /-- `A4` ANA H (R161) -/
  | anaH
  /-- `A5` ANA L (R161) -/
  | anaL
  /-- `A6` ANA M (R162) -/
  | anaM
  /-- `A7` ANA A (R161) -/
  | anaA
  /-- `A8` XRA B (R164) -/
  | xraB
  /-- `A9` XRA C (R164) -/
  | xraC
  /-- `AA` XRA D (R164) -/
  | xraD
  /-- `AB` XRA E (R164) -/
  | xraE
  /-- `AC` XRA H (R164) -/
  | xraH
  /-- `AD` XRA L (R164) -/
  | xraL
  /-- `AE` XRA M (R165) -/
  | xraM
  /-- `AF` XRA A (R164) -/
  | xraA
  /-- `B0` ORA B (R167) -/
  | oraB
  /-- `B1` ORA C (R167) -/
  | oraC
  /-- `B2` ORA D (R167) -/
  | oraD
  /-- `B3` ORA E (R167) -/
  | oraE
  /-- `B4` ORA H (R167) -/
  | oraH
  /-- `B5` ORA L (R167) -/
  | oraL
  /-- `B6` ORA M (R168) -/
  | oraM
  /-- `B7` ORA A (R167) -/
  | oraA
  /-- `B8` CMP B (R146) -/
  | cmpB
  /-- `B9` CMP C (R146) -/
  | cmpC
  /-- `BA` CMP D (R146) -/
  | cmpD
  /-- `BB` CMP E (R146) -/
  | cmpE
  /-- `BC` CMP H (R146) -/
  | cmpH
  /-- `BD` CMP L (R146) -/
  | cmpL
  /-- `BE` CMP M (R147) -/
  | cmpM
  /-- `BF` CMP A (R146) -/
  | cmpA
  /-- `C0` RNZ (R204) -/
  | rnz
  /-- `C1` POP B (R192) -/
  | popB
  /-- `C5` PUSH B (R190) -/
  | pushB
  /-- `C7` RST 0 (R205) -/
  | rst0
  /-- `C8` RZ (R204) -/
  | rz
  /-- `C9` RET (R203) -/
  | ret
  /-- `CB` UNDOC_CB (R238) -/
  | undocCB
  /-- `CF` RST 1 (R205) -/
  | rst1
  /-- `D0` RNC (R204) -/
  | rnc
  /-- `D1` POP D (R192) -/
  | popD
  /-- `D5` PUSH D (R190) -/
  | pushD
  /-- `D7` RST 2 (R205) -/
  | rst2
  /-- `D8` RC (R204) -/
  | rc
  /-- `D9` UNDOC_D9 (R238) -/
  | undocD9
  /-- `DD` UNDOC_DD (R238) -/
  | undocDD
  /-- `DF` RST 3 (R205) -/
  | rst3
  /-- `E0` RPO (R204) -/
  | rpo
  /-- `E1` POP H (R192) -/
  | popH
  /-- `E3` XTHL (R194) -/
  | xthl
  /-- `E5` PUSH H (R190) -/
  | pushH
  /-- `E7` RST 4 (R205) -/
  | rst4
  /-- `E8` RPE (R204) -/
  | rpe
  /-- `E9` PCHL (R206) -/
  | pchl
  /-- `EB` XCHG (R112) -/
  | xchg
  /-- `ED` UNDOC_ED (R238) -/
  | undocED
  /-- `EF` RST 5 (R205) -/
  | rst5
  /-- `F0` RP (R204) -/
  | rp
  /-- `F1` POP PSW (R193) -/
  | popPSW
  /-- `F3` DI (R235) -/
  | di
  /-- `F5` PUSH PSW (R191) -/
  | pushPSW
  /-- `F7` RST 6 (R205) -/
  | rst6
  /-- `F8` RM (R204) -/
  | rm
  /-- `F9` SPHL (R195) -/
  | sphl
  /-- `FB` EI (R234) -/
  | ei
  /-- `FD` UNDOC_FD (R238) -/
  | undocFD
  /-- `FF` RST 7 (R205) -/
  | rst7
  deriving DecidableEq, Repr

end Sys2Proof
end

