-- ==== Sys2Proof/Machine/State.lean ====
section
/-! DEFINITION. The machine's state as plain data (10_state.md R10 to R31, 20_memory.md R40, R50, R51), the reasons a
step can stop, and the state right after reset. INVENTORY.md lists every field with its rule and its reset value. -/

namespace Sys2Proof.Machine

/-- The register file (10_state.md R10): the accumulator and the six general-purpose registers. -/
structure Regs where
  a : Byte
  b : Byte
  c : Byte
  d : Byte
  e : Byte
  h : Byte
  l : Byte
  deriving DecidableEq, Repr

/-- The five condition flags (10_state.md R18). -/
structure Flags where
  z : Bool
  s : Bool
  p : Bool
  cy : Bool
  ac : Bool
  deriving DecidableEq, Repr

/-- Memory (20_memory.md R40): the bytes that differ from what an unlisted address reads as, addresses strictly rising
(Machine/Memory.lean: `Memory.wf`). -/
abbrev Memory := List Host.Cell

/-- What is known of the host's 256-entry input table (20_memory.md R49, R50): port number and value, ports strictly
rising. A port that is not listed reads as a free value (log entry 4). -/
abbrev PortTable := List Host.Cell

/-- One output event (20_memory.md R51): the port number and the value of an `OUT`. -/
structure OutEvent where
  port : Byte
  value : Byte
  deriving DecidableEq, Repr

/-- What the last step or interrupt request returned to the host (60_exceptions.md R246). The faults that change no
state are the outcome `fault` instead (log entries 6 and 7). -/
inductive StepResult where
  /-- nothing has been returned yet (after reset) -/
  | idle
  /-- `Ok`: one instruction executed -/
  | ok
  /-- `Halted`: the core was already halted, nothing executed -/
  | halted
  /-- `Fault(UnimplementedOpcode(pc, opcode))` (R243): the one fault that changes state -/
  | unimplementedOpcode (pc : Word) (opcode : Byte)
  /-- `Taken`: an interrupt request was delivered (R250) -/
  | taken
  /-- `Dropped`: an interrupt request found `INTE` = 0 (R250) -/
  | dropped
  deriving DecidableEq, Repr

/-- The state. The first nine fields are the core's state and memory; the last five are the model's own: the run's
parameters and what crosses the core's boundary (INVENTORY.md, '## State'). -/
structure State where
  /-- `A`, `B`, `C`, `D`, `E`, `H`, `L` (10_state.md R10) -/
  regs : Regs
  /-- `Z`, `S`, `P`, `CY`, `AC` (10_state.md R18) -/
  flags : Flags
  /-- `SP` (10_state.md R13) -/
  sp : Word
  /-- `PC` (10_state.md R14) -/
  pc : Word
  /-- `INTE` (10_state.md R25) -/
  inte : Bool
  /-- `HALTED` (10_state.md R26): `true` is `Halted`, `false` is `Running` -/
  halted : Bool
  /-- `ICOUNT` (10_state.md R27) -/
  icount : Nat
  /-- memory (20_memory.md R40) -/
  mem : Memory
  /-- the step result, an output of the core and no record in it (60_exceptions.md R246; log entry 6) -/
  result : StepResult
  /-- the output events of `OUT`, oldest first (20_memory.md R51; log entry 5) -/
  outputs : List OutEvent
  /-- the known entries of the host's input table (20_memory.md R50; log entry 4) -/
  inPorts : PortTable
  /-- how many `IN` have run: the argument of the free input value (20_memory.md R50; log entry 4) -/
  inCount : Nat
  /-- the parameters of the run (00_scope.md R4; log entry 1) -/
  cfg : Config
  deriving DecidableEq, Repr

/-- The reasons a step or an interrupt request stops with no next state. Both leave the whole state as it was, so the
host may go on from that state (60_exceptions.md R242, R244; log entry 7). -/
inductive Fault where
  /-- `OutOfBoundsAccess(addr)` (60_exceptions.md R242, R253): the first address, an unbounded integer, that an
  instruction's fetch, its data access or an interrupt delivery finds outside memory. Raised by the access primitives
  `State.memRead` and `State.memWrite`. Safe: the spec's own fault, and the state it leaves is the one before. -/
  | outOfBoundsAccess (addr : Int)
  /-- `InvalidInterruptVector(vector)` (60_exceptions.md R244): an interrupt request whose vector is outside 0 to 7.
  Raised by `requestInterrupt` only, never by a step. Safe: the spec's own fault, no state change. -/
  | invalidInterruptVector (vector : Int)
  deriving DecidableEq, Repr

/-- The reasons an instruction has no meaning. Every instruction of this model has one. -/
inductive Refusal where
  /-- An instruction whose meaning is not written yet, by the mnemonic of spec/opcode_table.json. Raised by an arm of
  `exec` only; no arm raises it. Safe: nothing can be proved of a next state. -/
  | notModelled (mnemonic : String)
  deriving DecidableEq, Repr

/-- The state after reset (10_state.md R30, 70_reset_and_hazards.md R280): everything zero, `Running`, interrupts
disabled, `PC` and `SP` at the default entry values, the default parameters (00_scope.md R4). Memory lists nothing
(log entry 3); the model's own fields hold the values of log entries 4, 5 and 6. -/
def State.reset : State where
  regs := { a := 0, b := 0, c := 0, d := 0, e := 0, h := 0, l := 0 }
  flags := { z := false, s := false, p := false, cy := false, ac := false }
  sp := Config.entrySp
  pc := Config.entryPc
  inte := false
  halted := false
  icount := 0
  mem := []
  result := .idle
  outputs := []
  inPorts := []
  inCount := 0
  cfg := Config.default

end Sys2Proof.Machine
end

