-- ==== Sys2Proof/Machine/Flags.lean ====
section
/-! DEFINITION. Every flag computation of the spec, as functions of operands to a result and the new flags
(10_state.md R19 to R23; 41_arithmetic.md R120, R121, R135, R142, R143; 42_logical.md R160; 43_rotate.md R180 to
R183). Operands are taken to integers, the exact result is computed there, and it is narrowed at the end
(41_arithmetic.md R144). -/

namespace Sys2Proof.Machine

/-- `v[0] + v[1] + ... + v[7]`: the number of set bits (10_state.md R20). -/
def bitSum (v : Byte) : Nat :=
  (v.getLsbD 0).toNat + (v.getLsbD 1).toNat + (v.getLsbD 2).toNat + (v.getLsbD 3).toNat +
  (v.getLsbD 4).toNat + (v.getLsbD 5).toNat + (v.getLsbD 6).toNat + (v.getLsbD 7).toNat

/-- "Parity = 1 iff the number of set bits in the result is even" (10_state.md R20). -/
def parity (v : Byte) : Bool := decide (bitSum v % 2 = 0)

/-- `set_ZSP(v)` (10_state.md R22): writes `Z`, `S` and `P`, leaves `CY` and `AC`. -/
def Flags.setZSP (f : Flags) (v : Byte) : Flags :=
  { f with z := decide (v = 0), s := v.getLsbD 7, p := parity v }

/-- `v[3:0]` (00_scope.md R5). -/
def lowNibble (v : Byte) : Nat := v.toNat % 16

/-- `alu_add(a, b, cin)` (41_arithmetic.md R120): the result and all five flags. -/
def aluAdd (a b : Byte) (cin : Bool) (f : Flags) : Byte × Flags :=
  let t := a.toNat + b.toNat + cin.toNat
  let res : Byte := BitVec.ofNat 8 t
  (res, { f with
    cy := decide (t > 255)
    ac := decide (lowNibble a + lowNibble b + cin.toNat > 15) }.setZSP res)

/-- `alu_sub(a, b, bin)` (41_arithmetic.md R121): the result and all five flags. `CY` = 1 is a borrow; `AC` = 1 is the
absence of a borrow from bit 4. -/
def aluSub (a b : Byte) (bin : Bool) (f : Flags) : Byte × Flags :=
  let res : Byte := BitVec.ofInt 8 ((a.toNat : Int) - b.toNat - bin.toNat)
  (res, { f with
    cy := decide (a.toNat < b.toNat + bin.toNat)
    ac := decide (lowNibble a ≥ lowNibble b + bin.toNat) }.setZSP res)

/-- `inr8(x)` (41_arithmetic.md R135); `CY` unchanged. -/
def inr8 (x : Byte) (f : Flags) : Byte × Flags :=
  let res : Byte := BitVec.ofNat 8 (x.toNat + 1)
  (res, { f with ac := decide (lowNibble x = 15) }.setZSP res)

/-- `dcr8(x)` (41_arithmetic.md R135); `CY` unchanged. -/
def dcr8 (x : Byte) (f : Flags) : Byte × Flags :=
  let res : Byte := BitVec.ofInt 8 ((x.toNat : Int) - 1)
  (res, { f with ac := decide (lowNibble x ≠ 0) }.setZSP res)

/-- `alu_logic(AND, a, b)` (42_logical.md R160): `CY` cleared, `AC` the OR of bit 3 of the two operands. -/
def aluAnd (a b : Byte) (f : Flags) : Byte × Flags :=
  let res := a &&& b
  (res, { f with cy := false, ac := a.getLsbD 3 || b.getLsbD 3 }.setZSP res)

/-- `alu_logic(XOR, a, b)` (42_logical.md R160): `CY` and `AC` cleared. -/
def aluXor (a b : Byte) (f : Flags) : Byte × Flags :=
  let res := a ^^^ b
  (res, { f with cy := false, ac := false }.setZSP res)

/-- `alu_logic(OR, a, b)` (42_logical.md R160): `CY` and `AC` cleared. -/
def aluOr (a b : Byte) (f : Flags) : Byte × Flags :=
  let res := a ||| b
  (res, { f with cy := false, ac := false }.setZSP res)

/-- The correction `DAA` adds and the new `CY` (41_arithmetic.md R143, the block). -/
def daaCorrection (a : Byte) (f : Flags) : Byte × Bool :=
  let lo := lowNibble a
  let hi := a.toNat / 16
  let low : Byte := if f.ac = true ∨ lo > 9 then 0x06 else 0x00
  if f.cy = true ∨ hi > 9 ∨ (hi ≥ 9 ∧ lo > 9) then (low + 0x60, true) else (low, f.cy)

/-- `DAA` on the accumulator (41_arithmetic.md R143): `Z`, `S`, `P`, `AC` from the correcting addition, whose own `CY`
is discarded. -/
def decimalAdjust (a : Byte) (f : Flags) : Byte × Flags :=
  let corr := daaCorrection a f
  let sum := aluAdd a corr.1 false f
  (sum.1, { sum.2 with cy := corr.2 })

/-- The pair addition of `DAD` (41_arithmetic.md R142): writes `CY` only. -/
def addPair (x y : Word) (f : Flags) : Word × Flags :=
  let t := x.toNat + y.toNat
  (BitVec.ofNat 16 t, { f with cy := decide (t > 65535) })

/-- `RLC` (43_rotate.md R180): `b = A[7]; A <- ((A * 2) mod 256) + b; CY <- b`. -/
def rotLeft (a : Byte) (f : Flags) : Byte × Flags :=
  let b := a.getLsbD 7
  (BitVec.ofNat 8 (a.toNat * 2 % 256 + b.toNat), { f with cy := b })

/-- `RRC` (43_rotate.md R181): `b = A[0]; A <- (A div 2) + 128 * b; CY <- b`. -/
def rotRight (a : Byte) (f : Flags) : Byte × Flags :=
  let b := a.getLsbD 0
  (BitVec.ofNat 8 (a.toNat / 2 + 128 * b.toNat), { f with cy := b })

/-- `RAL` (43_rotate.md R182): `b = A[7]; A <- ((A * 2) mod 256) + CY; CY <- b`. -/
def rotLeftCarry (a : Byte) (f : Flags) : Byte × Flags :=
  let b := a.getLsbD 7
  (BitVec.ofNat 8 (a.toNat * 2 % 256 + f.cy.toNat), { f with cy := b })

/-- `RAR` (43_rotate.md R183): `b = A[0]; A <- (A div 2) + 128 * CY; CY <- b`. -/
def rotRightCarry (a : Byte) (f : Flags) : Byte × Flags :=
  let b := a.getLsbD 0
  (BitVec.ofNat 8 (a.toNat / 2 + 128 * f.cy.toNat), { f with cy := b })

/-- `flagbyte() = S*128 + Z*64 + AC*16 + P*4 + 2 + CY` (10_state.md R23). -/
def flagByte (f : Flags) : Byte :=
  BitVec.ofNat 8 (f.s.toNat * 128 + f.z.toNat * 64 + f.ac.toNat * 16 + f.p.toNat * 4 + 2 + f.cy.toNat)

/-- The flags of a popped flag byte (44_stack_control.md R193): bits 5, 3 and 1 are ignored. -/
def flagsOfByte (v : Byte) : Flags where
  s := v.getLsbD 7
  z := v.getLsbD 6
  ac := v.getLsbD 4
  p := v.getLsbD 2
  cy := v.getLsbD 0

/-- `cond(ccc)` (44_stack_control.md R198): tests exactly one flag bit. -/
def condHolds (code : Cond) (f : Flags) : Bool :=
  match code with
  | .nz => !f.z
  | .z => f.z
  | .nc => !f.cy
  | .c => f.cy
  | .po => !f.p
  | .pe => f.p
  | .p => !f.s
  | .m => f.s

end Sys2Proof.Machine
end

