-- ==== Sys2Proof/Machine/Memory.lean ====
section
/-! DEFINITION. Memory and the known input-port values as lists of cells in one canonical form. -/

namespace Sys2Proof.Machine

/-- What an address that the memory list does not hold reads as. DESIGN CHOICE (unsafe, log entry 3): the spec leaves
the bytes the loader did not write to the host (20_memory.md R41); the model reads 0x00. -/
def blankByte : Byte := 0x00

/-- The byte at an address (20_memory.md R40). -/
def Memory.read : Memory → Nat → Byte
  | [], _ => blankByte
  | (b, w) :: rest, a => if b = a then w else Memory.read rest a

/-- The memory with the byte at `a` set to `v` and every other byte as it was; keeps the canonical form: a cell that
would hold `blankByte` is not listed. -/
def Memory.write : Memory → Nat → Byte → Memory
  | [], a, v => if v = blankByte then [] else [(a, v)]
  | (b, w) :: rest, a, v =>
    if a < b then
      if v = blankByte then (b, w) :: rest else (a, v) :: (b, w) :: rest
    else if a = b then
      if v = blankByte then rest else (a, v) :: rest
    else (b, w) :: Memory.write rest a v

/-- The canonical form from address `lo` up: addresses strictly rising from `lo`, all below `size`, no cell equal to
what an unlisted address reads as. -/
def Memory.wfFrom (size : Nat) : Nat → Memory → Bool
  | _, [] => true
  | lo, (a, v) :: rest =>
    decide (lo ≤ a) && decide (a < size) && decide (v ≠ blankByte) && Memory.wfFrom size (a + 1) rest

/-- The canonical form of a memory of `size` bytes (20_memory.md R40: addresses 0 to `MEM_SIZE`-1). -/
def Memory.wf (size : Nat) (m : Memory) : Bool := Memory.wfFrom size 0 m

/-- The known value of an input port, if it is known (20_memory.md R50; log entry 4). -/
def PortTable.lookup : PortTable → Nat → Option Byte
  | [], _ => none
  | (q, w) :: rest, p => if q = p then some w else PortTable.lookup rest p

/-- The table with the value of port `p` known to be `v`; ports stay strictly rising. -/
def PortTable.set : PortTable → Nat → Byte → PortTable
  | [], p, v => [(p, v)]
  | (q, w) :: rest, p, v =>
    if p < q then (p, v) :: (q, w) :: rest
    else if p = q then (p, v) :: rest
    else (q, w) :: PortTable.set rest p v

/-- Ports strictly rising from `lo`, all below 256 (20_memory.md R49). -/
def PortTable.wfFrom : Nat → PortTable → Bool
  | _, [] => true
  | lo, (p, _) :: rest => decide (lo ≤ p) && decide (p < 256) && PortTable.wfFrom (p + 1) rest

/-- The canonical form of the table of known input values. -/
def PortTable.wf (t : PortTable) : Bool := PortTable.wfFrom 0 t

end Sys2Proof.Machine
end

