-- ==== Sys2Proof/Machine/Operands.lean ====
section
/-! DEFINITION. Reading and writing registers, pairs and 8-bit operands, and the bounds-checked memory accesses every
other access goes through (10_state.md R10, R12; 20_memory.md R42, R43, R45; 30_encoding.md R74, R75). -/

namespace Sys2Proof.Machine

/-- `x[i]` (00_scope.md R6): the register a code names. -/
def Regs.get (r : Regs) : Reg8 → Byte
  | .a => r.a | .b => r.b | .c => r.c | .d => r.d | .e => r.e | .h => r.h | .l => r.l

/-- `x[i] <- v` (00_scope.md R6). -/
def Regs.set (r : Regs) (i : Reg8) (v : Byte) : Regs :=
  match i with
  | .a => { r with a := v }
  | .b => { r with b := v }
  | .c => { r with c := v }
  | .d => { r with d := v }
  | .e => { r with e := v }
  | .h => { r with h := v }
  | .l => { r with l := v }

/-- The high register of a pair (10_state.md R12). -/
def hiReg : RegPair → Reg8
  | .bc => .b | .de => .d | .hl => .h

/-- The low register of a pair (10_state.md R12). -/
def loReg : RegPair → Reg8
  | .bc => .c | .de => .e | .hl => .l

/-- Read a register. -/
def State.reg (s : State) (i : Reg8) : Byte := s.regs.get i

/-- Write a register. -/
def State.setReg (s : State) (i : Reg8) (v : Byte) : State := { s with regs := s.regs.set i v }

/-- Read a register pair, a view of its two registers (10_state.md R12). -/
def State.pair (s : State) (p : RegPair) : Word := joinBytes (s.reg (hiReg p)) (s.reg (loReg p))

/-- Write a register pair: "the high register to `v[15:8]` and the low register to `v[7:0]` as one action"
(10_state.md R12). -/
def State.setPair (s : State) (p : RegPair) (v : Word) : State :=
  { s with regs := (s.regs.set (hiReg p) (hiByte v)).set (loReg p) (loByte v) }

/-- `HL`, the address of the operand `M` (30_encoding.md R74). -/
def State.hl (s : State) : Word := s.pair .hl

/-- Write the stack pointer. -/
def State.setSp (s : State) (v : Word) : State := { s with sp := v }

/-- Write the five flags. -/
def State.setFlags (s : State) (f : Flags) : State := { s with flags := f }

/-- Read what a 2-bit pair code names in `INX`, `DCX`, `DAD` (30_encoding.md R75). -/
def State.pair16 (s : State) : Pair16 → Word
  | .bc => s.pair .bc | .de => s.pair .de | .hl => s.pair .hl | .sp => s.sp

/-- Write what a 2-bit pair code names in `LXI`, `INX`, `DCX` (30_encoding.md R75). -/
def State.setPair16 (s : State) (q : Pair16) (v : Word) : State :=
  match q with
  | .bc => s.setPair .bc v
  | .de => s.setPair .de v
  | .hl => s.setPair .hl v
  | .sp => s.setSp v

/-- The pair `LDAX` and `STAX` address memory through (30_encoding.md R75). -/
def State.indPair (s : State) : IndPair → Word
  | .bc => s.pair .bc | .de => s.pair .de

/-- The bounds check of every access (20_memory.md R42, R45): an integer address outside 0 to `MEM_SIZE`-1 raises
`OutOfBoundsAccess`; no address is wrapped. -/
def checkAddr (size : Nat) (addr : Int) : Except Fault Nat :=
  if 0 ≤ addr ∧ addr < size then .ok addr.toNat else .error (.outOfBoundsAccess addr)

/-- `MemRead(addr, 1)` (20_memory.md R42). -/
def State.memRead (s : State) (addr : Int) : Except Fault Byte :=
  match checkAddr s.cfg.memSize addr with
  | .ok a => .ok (s.mem.read a)
  | .error f => .error f

/-- `MemWrite(addr, 1, v)` (20_memory.md R42): changes exactly one byte. -/
def State.memWrite (s : State) (addr : Int) (v : Byte) : Except Fault State :=
  match checkAddr s.cfg.memSize addr with
  | .ok a => .ok { s with mem := s.mem.write a v }
  | .error f => .error f

/-- `MemRead(addr, 2)` (00_scope.md R6, 20_memory.md R43): the low byte at `addr`, the high byte at `addr + 1`. -/
def State.memRead16 (s : State) (addr : Int) : Except Fault Word :=
  match s.memRead addr with
  | .error f => .error f
  | .ok lo =>
    match s.memRead (addr + 1) with
    | .error f => .error f
    | .ok hi => .ok (joinBytes hi lo)

/-- `MemWrite(addr, 2, v)` (00_scope.md R6, 20_memory.md R43): `v[7:0]` to `addr`, `v[15:8]` to `addr + 1`; where
either address is outside memory nothing is written (20_memory.md R47). -/
def State.memWrite16 (s : State) (addr : Int) (v : Word) : Except Fault State :=
  match s.memWrite addr (loByte v) with
  | .error f => .error f
  | .ok t => t.memWrite (addr + 1) (hiByte v)

/-- The value of an 8-bit source operand: a register, the memory byte at `HL`, or the immediate (30_encoding.md R74,
R76). -/
def State.src8 (s : State) : Src8 → Except Fault Byte
  | .reg r => .ok (s.reg r)
  | .m => s.memRead s.hl.toNat
  | .imm v => .ok v

/-- The length of an instruction with this 8-bit source: an immediate adds its byte (30_encoding.md R71). -/
def srcLen : Src8 → Nat
  | .reg _ => 1
  | .m => 1
  | .imm _ => 2

/-- `imm16` read from memory after the opcode byte (30_encoding.md R77): used by the undocumented bytes under the
policy `alias`, whose immediate bytes the decoder does not read (log entry 12). -/
def State.imm16AfterPc (s : State) : Except Fault Word := s.memRead16 (s.pc.toNat + 1)

end Sys2Proof.Machine
end

