-- ==== Sys2Proof/Machine/Ops.lean ====
section
/-! DEFINITION. The operations the meanings share: ending an instruction, the stack primitives (44_stack_control.md
R196, R197), taking an interrupt and returning from one (60_exceptions.md R250, R254), raising `UnimplementedOpcode`
(R243), and the I/O boundary (20_memory.md R50, R51). -/

namespace Sys2Proof.Machine

/-- The outcome of a step, of a meaning and of a host move. -/
abbrev Out := Host.Outcome State Fault Refusal

/-- Go on with the value of a checked access, or stop with its fault: nothing has changed then (20_memory.md R47). -/
def andThen {α : Type} (r : Except Fault α) (k : α → Out) : Out :=
  match r with
  | .ok v => k v
  | .error f => .fault f

/-- End an instruction that sets `PC` itself (10_state.md R15): `PC <- target`, `ICOUNT <- ICOUNT + 1`
(60_exceptions.md R240 step 8), result `Ok`. -/
def State.retireTo (s : State) (target : Word) : State :=
  { s with pc := target, icount := s.icount + 1, result := .ok }

/-- End an instruction of length `len` that does not set `PC` (10_state.md R15, R16): `PC <- (PC + len) mod 65536`. -/
def State.retire (s : State) (len : Nat) : State := s.retireTo (s.pc + BitVec.ofNat 16 len)

/-- `push16(v)` (44_stack_control.md R196): the high byte to `SP - 1`, then the low byte to `SP - 2`, addresses not
wrapped; then `SP <- (SP - 2) mod 65536`. -/
def State.push16 (s : State) (v : Word) : Except Fault State :=
  match s.memWrite ((s.sp.toNat : Int) - 1) (hiByte v) with
  | .error f => .error f
  | .ok t =>
    match t.memWrite ((s.sp.toNat : Int) - 2) (loByte v) with
    | .error f => .error f
    | .ok u => .ok (u.setSp (s.sp - 2))

/-- `pop16()` (44_stack_control.md R197): the value at `SP`, `SP + 1`, addresses not wrapped, and the state with
`SP <- (SP + 2) mod 65536`. -/
def State.pop16 (s : State) : Except Fault (Word × State) :=
  match s.memRead16 s.sp.toNat with
  | .error f => .error f
  | .ok v => .ok (v, s.setSp (s.sp + 2))

/-- The fixed address of restart number or interrupt vector `n`: `8 * n` (20_memory.md R53). -/
def vectorAddr (n : Nat) : Word := BitVec.ofNat 16 (8 * n)

/-- TAKING AN INTERRUPT with a valid vector (60_exceptions.md R250): `INTE <- 0`, push `PC` as it is, `PC <- 8 *
vector`. Nothing else changes, `ICOUNT` and `HALTED` among it; where the push does not fit, nothing at all changes
(R253). -/
def State.takeInterrupt (s : State) (vector : Nat) : Except Fault State :=
  match s.push16 s.pc with
  | .error f => .error f
  | .ok t => .ok { t with inte := false, pc := vectorAddr vector, result := .taken }

/-- RETURNING, from a call or from an interrupt handler (60_exceptions.md R254): `PC <- pop16()`; `INTE` stays. -/
def State.returnFrom (s : State) : Out :=
  andThen s.pop16 fun r => .next (r.2.retireTo r.1)

/-- RAISING `UnimplementedOpcode(pc, opcode)` (60_exceptions.md R243): `HALTED <- 1`, `ICOUNT <- ICOUNT + 1`, `PC` stays
at the offending byte; reported to the host in `result` (log entry 6). -/
def State.raiseUnimplemented (s : State) (opcode : Byte) : State :=
  { s with halted := true, icount := s.icount + 1, result := .unimplementedOpcode s.pc opcode }

/-- Calling `target` from an instruction of length `len` (44_stack_control.md R201, R205): push the address of the
instruction that follows, then `PC <- target`. -/
def State.callTo (s : State) (len : Nat) (target : Word) : Out :=
  andThen (s.push16 (s.pc + BitVec.ofNat 16 len)) fun t => .next (t.retireTo target)

/-- `IoRead(port)` (20_memory.md R50): the known entry of the host's input table, and otherwise the free value of this
`IN` (log entry 4). -/
def State.ioRead (s : State) (port : Byte) : Byte :=
  match s.inPorts.lookup port.toNat with
  | some v => v
  | none => Config.freeInput s.inCount port

/-- `IoWrite(port, v)` (20_memory.md R51): records the event, after those before it (log entry 5). -/
def State.ioWrite (s : State) (port v : Byte) : State :=
  { s with outputs := s.outputs ++ [{ port := port, value := v }] }

/-- The numbers 60_exceptions.md R241 gives the faults that are outcomes (`UnimplementedOpcode`, number 1, is a step
result: `StepResult.faultCode`). -/
def Fault.code : Fault → Nat
  | .outOfBoundsAccess _ => 2
  | .invalidInterruptVector _ => 3

/-- The fault number of a step result (60_exceptions.md R241): 1 for `UnimplementedOpcode`, 0 for no fault
(92_eei_decisions.md D17). -/
def StepResult.faultCode : StepResult → Nat
  | .unimplementedOpcode _ _ => 1
  | .idle => 0
  | .ok => 0
  | .halted => 0
  | .taken => 0
  | .dropped => 0

end Sys2Proof.Machine
end

