-- ==== Sys2Proof/Machine/DataTransfer.lean ====
section
/-! DEFINITION. The data transfer instructions (40_data_transfer.md R100 to R112). None writes a flag. The shared
operations first, then one meaning per row of the opcode table. -/

namespace Sys2Proof.Machine

/-- `MOV r1,r2` (R100): `x[ddd] <- x[sss]`. -/
def moveReg (dst src : Reg8) (s : State) : Out := .next ((s.setReg dst (s.reg src)).retire 1)

/-- `MOV r,M` (R101): `x[ddd] <- MemRead(HL, 1)`. -/
def loadReg (dst : Reg8) (s : State) : Out :=
  andThen (s.memRead s.hl.toNat) fun v => .next ((s.setReg dst v).retire 1)

/-- `MOV M,r` (R102): `MemWrite(HL, 1, x[sss])`. -/
def storeReg (src : Reg8) (s : State) : Out :=
  andThen (s.memWrite s.hl.toNat (s.reg src)) fun t => .next (t.retire 1)

/-- `MVI r,d8` (R103): `x[ddd] <- imm8`. -/
def moveImm (dst : Reg8) (v : Byte) (s : State) : Out := .next ((s.setReg dst v).retire 2)

/-- `MVI M,d8` (R104): `MemWrite(HL, 1, imm8)`. -/
def storeImm (v : Byte) (s : State) : Out :=
  andThen (s.memWrite s.hl.toNat v) fun t => .next (t.retire 2)

/-- `LXI rp,d16` (R105): `rp[rp] <- imm16`. -/
def loadPairImm (q : Pair16) (w : Word) (s : State) : Out := .next ((s.setPair16 q w).retire 3)

/-- `LDAX rp` (R110): `A <- MemRead(rp, 1)`. -/
def loadIndirect (p : IndPair) (s : State) : Out :=
  andThen (s.memRead (s.indPair p).toNat) fun v => .next ((s.setReg .a v).retire 1)

/-- `STAX rp` (R111): `MemWrite(rp, 1, A)`. -/
def storeIndirect (p : IndPair) (s : State) : Out :=
  andThen (s.memWrite (s.indPair p).toNat (s.reg .a)) fun t => .next (t.retire 1)

/-- `LDA a16` (R106): `A <- MemRead(imm16, 1)`. -/
def loadDirect (w : Word) (s : State) : Out :=
  andThen (s.memRead w.toNat) fun v => .next ((s.setReg .a v).retire 3)

/-- `STA a16` (R107): `MemWrite(imm16, 1, A)`. -/
def storeDirect (w : Word) (s : State) : Out :=
  andThen (s.memWrite w.toNat (s.reg .a)) fun t => .next (t.retire 3)

/-- `LHLD a16` (R108): `HL <- MemRead(imm16, 2)`. -/
def loadHlDirect (w : Word) (s : State) : Out :=
  andThen (s.memRead16 w.toNat) fun v => .next ((s.setPair .hl v).retire 3)

/-- `SHLD a16` (R109): `MemWrite(imm16, 2, HL)`. -/
def storeHlDirect (w : Word) (s : State) : Out :=
  andThen (s.memWrite16 w.toNat s.hl) fun t => .next (t.retire 3)

/-- `XCHG` (R112): `t = HL; HL <- DE; DE <- t`. -/
def exchangePairs (s : State) : Out :=
  .next (((s.setPair .hl (s.pair .de)).setPair .de (s.pair .hl)).retire 1)

/-- `LXI B,d16` (R105). -/
def execLxiB (w : Word) (s : State) : Out := loadPairImm .bc w s

/-- `STAX B` (R111). -/
def execStaxB (s : State) : Out := storeIndirect .bc s

/-- `MVI B,d8` (R103). -/
def execMviB (v : Byte) (s : State) : Out := moveImm .b v s

/-- `LDAX B` (R110). -/
def execLdaxB (s : State) : Out := loadIndirect .bc s

/-- `MVI C,d8` (R103). -/
def execMviC (v : Byte) (s : State) : Out := moveImm .c v s

/-- `LXI D,d16` (R105). -/
def execLxiD (w : Word) (s : State) : Out := loadPairImm .de w s

/-- `STAX D` (R111). -/
def execStaxD (s : State) : Out := storeIndirect .de s

/-- `MVI D,d8` (R103). -/
def execMviD (v : Byte) (s : State) : Out := moveImm .d v s

/-- `LDAX D` (R110). -/
def execLdaxD (s : State) : Out := loadIndirect .de s

/-- `MVI E,d8` (R103). -/
def execMviE (v : Byte) (s : State) : Out := moveImm .e v s

/-- `LXI H,d16` (R105). -/
def execLxiH (w : Word) (s : State) : Out := loadPairImm .hl w s

/-- `SHLD a16` (R109). -/
def execShld (w : Word) (s : State) : Out := storeHlDirect w s

/-- `MVI H,d8` (R103). -/
def execMviH (v : Byte) (s : State) : Out := moveImm .h v s

/-- `LHLD a16` (R108). -/
def execLhld (w : Word) (s : State) : Out := loadHlDirect w s

/-- `MVI L,d8` (R103). -/
def execMviL (v : Byte) (s : State) : Out := moveImm .l v s

/-- `LXI SP,d16` (R105). -/
def execLxiSP (w : Word) (s : State) : Out := loadPairImm .sp w s

/-- `STA a16` (R107). -/
def execSta (w : Word) (s : State) : Out := storeDirect w s

/-- `MVI M,d8` (R104). -/
def execMviM (v : Byte) (s : State) : Out := storeImm v s

/-- `LDA a16` (R106). -/
def execLda (w : Word) (s : State) : Out := loadDirect w s

/-- `MVI A,d8` (R103). -/
def execMviA (v : Byte) (s : State) : Out := moveImm .a v s

/-- `MOV B,B` (R100). -/
def execMovBB (s : State) : Out := moveReg .b .b s

/-- `MOV B,C` (R100). -/
def execMovBC (s : State) : Out := moveReg .b .c s

/-- `MOV B,D` (R100). -/
def execMovBD (s : State) : Out := moveReg .b .d s

/-- `MOV B,E` (R100). -/
def execMovBE (s : State) : Out := moveReg .b .e s

/-- `MOV B,H` (R100). -/
def execMovBH (s : State) : Out := moveReg .b .h s

/-- `MOV B,L` (R100). -/
def execMovBL (s : State) : Out := moveReg .b .l s

/-- `MOV B,M` (R101). -/
def execMovBM (s : State) : Out := loadReg .b s

/-- `MOV B,A` (R100). -/
def execMovBA (s : State) : Out := moveReg .b .a s

/-- `MOV C,B` (R100). -/
def execMovCB (s : State) : Out := moveReg .c .b s

/-- `MOV C,C` (R100). -/
def execMovCC (s : State) : Out := moveReg .c .c s

/-- `MOV C,D` (R100). -/
def execMovCD (s : State) : Out := moveReg .c .d s

/-- `MOV C,E` (R100). -/
def execMovCE (s : State) : Out := moveReg .c .e s

/-- `MOV C,H` (R100). -/
def execMovCH (s : State) : Out := moveReg .c .h s

/-- `MOV C,L` (R100). -/
def execMovCL (s : State) : Out := moveReg .c .l s

/-- `MOV C,M` (R101). -/
def execMovCM (s : State) : Out := loadReg .c s

/-- `MOV C,A` (R100). -/
def execMovCA (s : State) : Out := moveReg .c .a s

/-- `MOV D,B` (R100). -/
def execMovDB (s : State) : Out := moveReg .d .b s

/-- `MOV D,C` (R100). -/
def execMovDC (s : State) : Out := moveReg .d .c s

/-- `MOV D,D` (R100). -/
def execMovDD (s : State) : Out := moveReg .d .d s

/-- `MOV D,E` (R100). -/
def execMovDE (s : State) : Out := moveReg .d .e s

/-- `MOV D,H` (R100). -/
def execMovDH (s : State) : Out := moveReg .d .h s

/-- `MOV D,L` (R100). -/
def execMovDL (s : State) : Out := moveReg .d .l s

/-- `MOV D,M` (R101). -/
def execMovDM (s : State) : Out := loadReg .d s

/-- `MOV D,A` (R100). -/
def execMovDA (s : State) : Out := moveReg .d .a s

/-- `MOV E,B` (R100). -/
def execMovEB (s : State) : Out := moveReg .e .b s

/-- `MOV E,C` (R100). -/
def execMovEC (s : State) : Out := moveReg .e .c s

/-- `MOV E,D` (R100). -/
def execMovED (s : State) : Out := moveReg .e .d s

/-- `MOV E,E` (R100). -/
def execMovEE (s : State) : Out := moveReg .e .e s

/-- `MOV E,H` (R100). -/
def execMovEH (s : State) : Out := moveReg .e .h s

/-- `MOV E,L` (R100). -/
def execMovEL (s : State) : Out := moveReg .e .l s

/-- `MOV E,M` (R101). -/
def execMovEM (s : State) : Out := loadReg .e s

/-- `MOV E,A` (R100). -/
def execMovEA (s : State) : Out := moveReg .e .a s

/-- `MOV H,B` (R100). -/
def execMovHB (s : State) : Out := moveReg .h .b s

/-- `MOV H,C` (R100). -/
def execMovHC (s : State) : Out := moveReg .h .c s

/-- `MOV H,D` (R100). -/
def execMovHD (s : State) : Out := moveReg .h .d s

/-- `MOV H,E` (R100). -/
def execMovHE (s : State) : Out := moveReg .h .e s

/-- `MOV H,H` (R100). -/
def execMovHH (s : State) : Out := moveReg .h .h s

/-- `MOV H,L` (R100). -/
def execMovHL (s : State) : Out := moveReg .h .l s

/-- `MOV H,M` (R101). -/
def execMovHM (s : State) : Out := loadReg .h s

/-- `MOV H,A` (R100). -/
def execMovHA (s : State) : Out := moveReg .h .a s

/-- `MOV L,B` (R100). -/
def execMovLB (s : State) : Out := moveReg .l .b s

/-- `MOV L,C` (R100). -/
def execMovLC (s : State) : Out := moveReg .l .c s

/-- `MOV L,D` (R100). -/
def execMovLD (s : State) : Out := moveReg .l .d s

/-- `MOV L,E` (R100). -/
def execMovLE (s : State) : Out := moveReg .l .e s

/-- `MOV L,H` (R100). -/
def execMovLH (s : State) : Out := moveReg .l .h s

/-- `MOV L,L` (R100). -/
def execMovLL (s : State) : Out := moveReg .l .l s

/-- `MOV L,M` (R101). -/
def execMovLM (s : State) : Out := loadReg .l s

/-- `MOV L,A` (R100). -/
def execMovLA (s : State) : Out := moveReg .l .a s

/-- `MOV M,B` (R102). -/
def execMovMB (s : State) : Out := storeReg .b s

/-- `MOV M,C` (R102). -/
def execMovMC (s : State) : Out := storeReg .c s

/-- `MOV M,D` (R102). -/
def execMovMD (s : State) : Out := storeReg .d s

/-- `MOV M,E` (R102). -/
def execMovME (s : State) : Out := storeReg .e s

/-- `MOV M,H` (R102). -/
def execMovMH (s : State) : Out := storeReg .h s

/-- `MOV M,L` (R102). -/
def execMovML (s : State) : Out := storeReg .l s

/-- `MOV M,A` (R102). -/
def execMovMA (s : State) : Out := storeReg .a s

/-- `MOV A,B` (R100). -/
def execMovAB (s : State) : Out := moveReg .a .b s

/-- `MOV A,C` (R100). -/
def execMovAC (s : State) : Out := moveReg .a .c s

/-- `MOV A,D` (R100). -/
def execMovAD (s : State) : Out := moveReg .a .d s

/-- `MOV A,E` (R100). -/
def execMovAE (s : State) : Out := moveReg .a .e s

/-- `MOV A,H` (R100). -/
def execMovAH (s : State) : Out := moveReg .a .h s

/-- `MOV A,L` (R100). -/
def execMovAL (s : State) : Out := moveReg .a .l s

/-- `MOV A,M` (R101). -/
def execMovAM (s : State) : Out := loadReg .a s

/-- `MOV A,A` (R100). -/
def execMovAA (s : State) : Out := moveReg .a .a s

/-- `XCHG` (R112). -/
def execXchg (s : State) : Out := exchangePairs s

end Sys2Proof.Machine
end

