-- ==== Sys2Proof/Machine/Io.lean ====
section
/-! DEFINITION. The input and output instructions (45_io.md R220, R221). -/

namespace Sys2Proof.Machine

/-- `OUT p8` (R221): `IoWrite(imm8, A)`, a side effect only. -/
def execOutPort (v : Byte) (s : State) : Out := .next ((s.ioWrite v (s.reg .a)).retire 2)

/-- `IN p8` (R220): `A <- IoRead(imm8)`. -/
def execInPort (v : Byte) (s : State) : Out :=
  .next ({ s.setReg .a (s.ioRead v) with inCount := s.inCount + 1 }.retire 2)

end Sys2Proof.Machine
end

