-- ==== Sys2Proof/Machine/Arithmetic.lean ====
section
/-! DEFINITION. The arithmetic instructions (41_arithmetic.md R120 to R149), compare among them. The shared operations
first, then one meaning per row of the opcode table. -/

namespace Sys2Proof.Machine

/-- `A <- f(A, operand)` with the flags `f` writes: the shape of every 8-bit operation on the accumulator
(41_arithmetic.md R123 to R134, 42_logical.md R161 to R169). -/
def intoAccumulator (f : Byte → Byte → Flags → Byte × Flags) (src : Src8) (s : State) : Out :=
  andThen (s.src8 src) fun v =>
    .next (((s.setReg .a (f (s.reg .a) v s.flags).1).setFlags (f (s.reg .a) v s.flags).2).retire (srcLen src))

/-- `ADD`, `ADI` (R123 to R125): `A <- alu_add(A, operand, 0)`. -/
def addFrom (src : Src8) (s : State) : Out := intoAccumulator (fun a v f => aluAdd a v false f) src s

/-- `ADC`, `ACI` (R126 to R128): `A <- alu_add(A, operand, CY)`. -/
def addCarryFrom (src : Src8) (s : State) : Out := intoAccumulator (fun a v f => aluAdd a v f.cy f) src s

/-- `SUB`, `SUI` (R129 to R131): `A <- alu_sub(A, operand, 0)`. -/
def subFrom (src : Src8) (s : State) : Out := intoAccumulator (fun a v f => aluSub a v false f) src s

/-- `SBB`, `SBI` (R132 to R134): `A <- alu_sub(A, operand, CY)`. -/
def subBorrowFrom (src : Src8) (s : State) : Out := intoAccumulator (fun a v f => aluSub a v f.cy f) src s

/-- `CMP`, `CPI` (R146 to R148): `alu_sub(A, operand, 0)` for its flags; `A` keeps its value. -/
def compareWith (src : Src8) (s : State) : Out :=
  andThen (s.src8 src) fun v =>
    .next ((s.setFlags (aluSub (s.reg .a) v false s.flags).2).retire (srcLen src))

/-- `INR r` and `DCR r` (R136, R138): `x[ddd] <- f(x[ddd])`. -/
def stepReg (f : Byte → Flags → Byte × Flags) (r : Reg8) (s : State) : Out :=
  .next (((s.setReg r (f (s.reg r) s.flags).1).setFlags (f (s.reg r) s.flags).2).retire 1)

/-- `INR M` and `DCR M` (R137, R139): `MemWrite(HL, 1, f(MemRead(HL, 1)))`. -/
def stepMem (f : Byte → Flags → Byte × Flags) (s : State) : Out :=
  andThen (s.memRead s.hl.toNat) fun v =>
    andThen (s.memWrite s.hl.toNat (f v s.flags).1) fun t =>
      .next ((t.setFlags (f v s.flags).2).retire 1)

/-- `INR r` (R136). -/
def incReg (r : Reg8) (s : State) : Out := stepReg inr8 r s

/-- `DCR r` (R138). -/
def decReg (r : Reg8) (s : State) : Out := stepReg dcr8 r s

/-- `INX rp` (R140): `rp[rp] <- (rp[rp] + 1) mod 65536`, no flag. -/
def incPair (q : Pair16) (s : State) : Out := .next ((s.setPair16 q (s.pair16 q + 1)).retire 1)

/-- `DCX rp` (R141): `rp[rp] <- (rp[rp] - 1) mod 65536`, no flag. -/
def decPair (q : Pair16) (s : State) : Out := .next ((s.setPair16 q (s.pair16 q - 1)).retire 1)

/-- `DAD rp` (R142): `HL <- HL + rp[rp]`, `CY` only. -/
def addPairToHl (q : Pair16) (s : State) : Out :=
  .next (((s.setPair .hl (addPair s.hl (s.pair16 q) s.flags).1).setFlags
    (addPair s.hl (s.pair16 q) s.flags).2).retire 1)

/-- A one-byte operation on `A` and the flags: `DAA` (R143) and the rotates (43_rotate.md). -/
def onAccumulator (f : Byte → Flags → Byte × Flags) (s : State) : Out :=
  .next (((s.setReg .a (f (s.reg .a) s.flags).1).setFlags (f (s.reg .a) s.flags).2).retire 1)

/-- `INX B` (R140). -/
def execInxB (s : State) : Out := incPair .bc s

/-- `INR B` (R136). -/
def execInrB (s : State) : Out := incReg .b s

/-- `DCR B` (R138). -/
def execDcrB (s : State) : Out := decReg .b s

/-- `DAD B` (R142). -/
def execDadB (s : State) : Out := addPairToHl .bc s

/-- `DCX B` (R141). -/
def execDcxB (s : State) : Out := decPair .bc s

/-- `INR C` (R136). -/
def execInrC (s : State) : Out := incReg .c s

/-- `DCR C` (R138). -/
def execDcrC (s : State) : Out := decReg .c s

/-- `INX D` (R140). -/
def execInxD (s : State) : Out := incPair .de s

/-- `INR D` (R136). -/
def execInrD (s : State) : Out := incReg .d s

/-- `DCR D` (R138). -/
def execDcrD (s : State) : Out := decReg .d s

/-- `DAD D` (R142). -/
def execDadD (s : State) : Out := addPairToHl .de s

/-- `DCX D` (R141). -/
def execDcxD (s : State) : Out := decPair .de s

/-- `INR E` (R136). -/
def execInrE (s : State) : Out := incReg .e s

/-- `DCR E` (R138). -/
def execDcrE (s : State) : Out := decReg .e s

/-- `INX H` (R140). -/
def execInxH (s : State) : Out := incPair .hl s

/-- `INR H` (R136). -/
def execInrH (s : State) : Out := incReg .h s

/-- `DCR H` (R138). -/
def execDcrH (s : State) : Out := decReg .h s

/-- `DAA` (R143). -/
def execDaa (s : State) : Out := onAccumulator decimalAdjust s

/-- `DAD H` (R142). -/
def execDadH (s : State) : Out := addPairToHl .hl s

/-- `DCX H` (R141). -/
def execDcxH (s : State) : Out := decPair .hl s

/-- `INR L` (R136). -/
def execInrL (s : State) : Out := incReg .l s

/-- `DCR L` (R138). -/
def execDcrL (s : State) : Out := decReg .l s

/-- `INX SP` (R140). -/
def execInxSP (s : State) : Out := incPair .sp s

/-- `INR M` (R137). -/
def execInrM (s : State) : Out := stepMem inr8 s

/-- `DCR M` (R139). -/
def execDcrM (s : State) : Out := stepMem dcr8 s

/-- `DAD SP` (R142). -/
def execDadSP (s : State) : Out := addPairToHl .sp s

/-- `DCX SP` (R141). -/
def execDcxSP (s : State) : Out := decPair .sp s

/-- `INR A` (R136). -/
def execInrA (s : State) : Out := incReg .a s

/-- `DCR A` (R138). -/
def execDcrA (s : State) : Out := decReg .a s

/-- `ADD B` (R123). -/
def execAddB (s : State) : Out := addFrom (.reg .b) s

/-- `ADD C` (R123). -/
def execAddC (s : State) : Out := addFrom (.reg .c) s

/-- `ADD D` (R123). -/
def execAddD (s : State) : Out := addFrom (.reg .d) s

/-- `ADD E` (R123). -/
def execAddE (s : State) : Out := addFrom (.reg .e) s

/-- `ADD H` (R123). -/
def execAddH (s : State) : Out := addFrom (.reg .h) s

/-- `ADD L` (R123). -/
def execAddL (s : State) : Out := addFrom (.reg .l) s

/-- `ADD M` (R124). -/
def execAddM (s : State) : Out := addFrom .m s

/-- `ADD A` (R123). -/
def execAddA (s : State) : Out := addFrom (.reg .a) s

/-- `ADC B` (R126). -/
def execAdcB (s : State) : Out := addCarryFrom (.reg .b) s

/-- `ADC C` (R126). -/
def execAdcC (s : State) : Out := addCarryFrom (.reg .c) s

/-- `ADC D` (R126). -/
def execAdcD (s : State) : Out := addCarryFrom (.reg .d) s

/-- `ADC E` (R126). -/
def execAdcE (s : State) : Out := addCarryFrom (.reg .e) s

/-- `ADC H` (R126). -/
def execAdcH (s : State) : Out := addCarryFrom (.reg .h) s

/-- `ADC L` (R126). -/
def execAdcL (s : State) : Out := addCarryFrom (.reg .l) s

/-- `ADC M` (R127). -/
def execAdcM (s : State) : Out := addCarryFrom .m s

/-- `ADC A` (R126). -/
def execAdcA (s : State) : Out := addCarryFrom (.reg .a) s

/-- `SUB B` (R129). -/
def execSubB (s : State) : Out := subFrom (.reg .b) s

/-- `SUB C` (R129). -/
def execSubC (s : State) : Out := subFrom (.reg .c) s

/-- `SUB D` (R129). -/
def execSubD (s : State) : Out := subFrom (.reg .d) s

/-- `SUB E` (R129). -/
def execSubE (s : State) : Out := subFrom (.reg .e) s

/-- `SUB H` (R129). -/
def execSubH (s : State) : Out := subFrom (.reg .h) s

/-- `SUB L` (R129). -/
def execSubL (s : State) : Out := subFrom (.reg .l) s

/-- `SUB M` (R130). -/
def execSubM (s : State) : Out := subFrom .m s

/-- `SUB A` (R129). -/
def execSubA (s : State) : Out := subFrom (.reg .a) s

/-- `SBB B` (R132). -/
def execSbbB (s : State) : Out := subBorrowFrom (.reg .b) s

/-- `SBB C` (R132). -/
def execSbbC (s : State) : Out := subBorrowFrom (.reg .c) s

/-- `SBB D` (R132). -/
def execSbbD (s : State) : Out := subBorrowFrom (.reg .d) s

/-- `SBB E` (R132). -/
def execSbbE (s : State) : Out := subBorrowFrom (.reg .e) s

/-- `SBB H` (R132). -/
def execSbbH (s : State) : Out := subBorrowFrom (.reg .h) s

/-- `SBB L` (R132). -/
def execSbbL (s : State) : Out := subBorrowFrom (.reg .l) s

/-- `SBB M` (R133). -/
def execSbbM (s : State) : Out := subBorrowFrom .m s

/-- `SBB A` (R132). -/
def execSbbA (s : State) : Out := subBorrowFrom (.reg .a) s

/-- `CMP B` (R146). -/
def execCmpB (s : State) : Out := compareWith (.reg .b) s

/-- `CMP C` (R146). -/
def execCmpC (s : State) : Out := compareWith (.reg .c) s

/-- `CMP D` (R146). -/
def execCmpD (s : State) : Out := compareWith (.reg .d) s

/-- `CMP E` (R146). -/
def execCmpE (s : State) : Out := compareWith (.reg .e) s

/-- `CMP H` (R146). -/
def execCmpH (s : State) : Out := compareWith (.reg .h) s

/-- `CMP L` (R146). -/
def execCmpL (s : State) : Out := compareWith (.reg .l) s

/-- `CMP M` (R147). -/
def execCmpM (s : State) : Out := compareWith .m s

/-- `CMP A` (R146). -/
def execCmpA (s : State) : Out := compareWith (.reg .a) s

/-- `ADI d8` (R125). -/
def execAdi (v : Byte) (s : State) : Out := addFrom (.imm v) s

/-- `ACI d8` (R128). -/
def execAci (v : Byte) (s : State) : Out := addCarryFrom (.imm v) s

/-- `SUI d8` (R131). -/
def execSui (v : Byte) (s : State) : Out := subFrom (.imm v) s

/-- `SBI d8` (R134). -/
def execSbi (v : Byte) (s : State) : Out := subBorrowFrom (.imm v) s

/-- `CPI d8` (R148). -/
def execCpi (v : Byte) (s : State) : Out := compareWith (.imm v) s

end Sys2Proof.Machine
end

