-- ==== Sys2Proof/Machine/Logical.lean ====
section
/-! DEFINITION. The logical instructions (42_logical.md R160 to R172). The shared operations first, then one meaning
per row of the opcode table. -/

namespace Sys2Proof.Machine

/-- `ANA`, `ANI` (R161 to R163): `A <- alu_logic(AND, A, operand)`. -/
def andFrom (src : Src8) (s : State) : Out := intoAccumulator aluAnd src s

/-- `XRA`, `XRI` (R164 to R166): `A <- alu_logic(XOR, A, operand)`. -/
def xorFrom (src : Src8) (s : State) : Out := intoAccumulator aluXor src s

/-- `ORA`, `ORI` (R167 to R169): `A <- alu_logic(OR, A, operand)`. -/
def orFrom (src : Src8) (s : State) : Out := intoAccumulator aluOr src s

/-- `CMA` (R170): `A <- A XOR 0xFF`, no flag. -/
def execCma (s : State) : Out := .next ((s.setReg .a (s.reg .a ^^^ 0xFF)).retire 1)

/-- `STC` (R172): `CY <- 1`. -/
def execStc (s : State) : Out := .next ((s.setFlags { s.flags with cy := true }).retire 1)

/-- `CMC` (R171): `CY <- 1 - CY`. -/
def execCmc (s : State) : Out := .next ((s.setFlags { s.flags with cy := !s.flags.cy }).retire 1)

/-- `ANA B` (R161). -/
def execAnaB (s : State) : Out := andFrom (.reg .b) s

/-- `ANA C` (R161). -/
def execAnaC (s : State) : Out := andFrom (.reg .c) s

/-- `ANA D` (R161). -/
def execAnaD (s : State) : Out := andFrom (.reg .d) s

/-- `ANA E` (R161). -/
def execAnaE (s : State) : Out := andFrom (.reg .e) s

/-- `ANA H` (R161). -/
def execAnaH (s : State) : Out := andFrom (.reg .h) s

/-- `ANA L` (R161). -/
def execAnaL (s : State) : Out := andFrom (.reg .l) s

/-- `ANA M` (R162). -/
def execAnaM (s : State) : Out := andFrom .m s

/-- `ANA A` (R161). -/
def execAnaA (s : State) : Out := andFrom (.reg .a) s

/-- `XRA B` (R164). -/
def execXraB (s : State) : Out := xorFrom (.reg .b) s

/-- `XRA C` (R164). -/
def execXraC (s : State) : Out := xorFrom (.reg .c) s

/-- `XRA D` (R164). -/
def execXraD (s : State) : Out := xorFrom (.reg .d) s

/-- `XRA E` (R164). -/
def execXraE (s : State) : Out := xorFrom (.reg .e) s

/-- `XRA H` (R164). -/
def execXraH (s : State) : Out := xorFrom (.reg .h) s

/-- `XRA L` (R164). -/
def execXraL (s : State) : Out := xorFrom (.reg .l) s

/-- `XRA M` (R165). -/
def execXraM (s : State) : Out := xorFrom .m s

/-- `XRA A` (R164). -/
def execXraA (s : State) : Out := xorFrom (.reg .a) s

/-- `ORA B` (R167). -/
def execOraB (s : State) : Out := orFrom (.reg .b) s

/-- `ORA C` (R167). -/
def execOraC (s : State) : Out := orFrom (.reg .c) s

/-- `ORA D` (R167). -/
def execOraD (s : State) : Out := orFrom (.reg .d) s

/-- `ORA E` (R167). -/
def execOraE (s : State) : Out := orFrom (.reg .e) s

/-- `ORA H` (R167). -/
def execOraH (s : State) : Out := orFrom (.reg .h) s

/-- `ORA L` (R167). -/
def execOraL (s : State) : Out := orFrom (.reg .l) s

/-- `ORA M` (R168). -/
def execOraM (s : State) : Out := orFrom .m s

/-- `ORA A` (R167). -/
def execOraA (s : State) : Out := orFrom (.reg .a) s

/-- `ANI d8` (R163). -/
def execAni (v : Byte) (s : State) : Out := andFrom (.imm v) s

/-- `XRI d8` (R166). -/
def execXri (v : Byte) (s : State) : Out := xorFrom (.imm v) s

/-- `ORI d8` (R169). -/
def execOri (v : Byte) (s : State) : Out := orFrom (.imm v) s

end Sys2Proof.Machine
end

