-- ==== Sys2Proof/Machine/StackControl.lean ====
section
/-! DEFINITION. The stack and control-transfer instructions (44_stack_control.md R190 to R207). None writes a flag but
`POP PSW`. The shared operations first, then one meaning per row of the opcode table. -/

namespace Sys2Proof.Machine

/-- `PUSH rp` (R190): `push16(rp[rp])`. -/
def pushPair (p : RegPair) (s : State) : Out := andThen (s.push16 (s.pair p)) fun t => .next (t.retire 1)

/-- `POP rp` (R192): `rp[rp] <- pop16()`. -/
def popPair (p : RegPair) (s : State) : Out := andThen s.pop16 fun r => .next ((r.2.setPair p r.1).retire 1)

/-- `JMP a16` (R199): `PC <- imm16`; the target is not checked. -/
def jumpTo (w : Word) (s : State) : Out := .next (s.retireTo w)

/-- `Jcc a16` (R200): jump if the condition holds, else advance. -/
def jumpIf (code : Cond) (w : Word) (s : State) : Out :=
  if condHolds code s.flags then jumpTo w s else .next (s.retire 3)

/-- `CALL a16` (R201): push the address of the instruction that follows, then `PC <- imm16`. -/
def callSub (w : Word) (s : State) : Out := s.callTo 3 w

/-- `Ccc a16` (R202): call if the condition holds, else advance; not taken, it touches no stack address. -/
def callIf (code : Cond) (w : Word) (s : State) : Out :=
  if condHolds code s.flags then callSub w s else .next (s.retire 3)

/-- `Rcc` (R204): return if the condition holds, else advance; not taken, it reads no stack byte. -/
def returnIf (code : Cond) (s : State) : Out :=
  if condHolds code s.flags then s.returnFrom else .next (s.retire 1)

/-- `RST n` (R205): `push16((PC + 1) mod 65536); PC <- 8 * nnn`. -/
def restart (n : Nat) (s : State) : Out := s.callTo 1 (vectorAddr n)

/-- `RNZ` (R204). -/
def execRnz (s : State) : Out := returnIf .nz s

/-- `POP B` (R192). -/
def execPopB (s : State) : Out := popPair .bc s

/-- `JNZ a16` (R200). -/
def execJnz (w : Word) (s : State) : Out := jumpIf .nz w s

/-- `JMP a16` (R199). -/
def execJmp (w : Word) (s : State) : Out := jumpTo w s

/-- `CNZ a16` (R202). -/
def execCnz (w : Word) (s : State) : Out := callIf .nz w s

/-- `PUSH B` (R190). -/
def execPushB (s : State) : Out := pushPair .bc s

/-- `RST 0` (R205). -/
def execRst0 (s : State) : Out := restart 0 s

/-- `RZ` (R204). -/
def execRz (s : State) : Out := returnIf .z s

/-- `RET` (R203): `PC <- pop16()`. -/
def execRet (s : State) : Out := s.returnFrom

/-- `JZ a16` (R200). -/
def execJz (w : Word) (s : State) : Out := jumpIf .z w s

/-- `CZ a16` (R202). -/
def execCz (w : Word) (s : State) : Out := callIf .z w s

/-- `CALL a16` (R201). -/
def execCall (w : Word) (s : State) : Out := callSub w s

/-- `RST 1` (R205). -/
def execRst1 (s : State) : Out := restart 1 s

/-- `RNC` (R204). -/
def execRnc (s : State) : Out := returnIf .nc s

/-- `POP D` (R192). -/
def execPopD (s : State) : Out := popPair .de s

/-- `JNC a16` (R200). -/
def execJnc (w : Word) (s : State) : Out := jumpIf .nc w s

/-- `CNC a16` (R202). -/
def execCnc (w : Word) (s : State) : Out := callIf .nc w s

/-- `PUSH D` (R190). -/
def execPushD (s : State) : Out := pushPair .de s

/-- `RST 2` (R205). -/
def execRst2 (s : State) : Out := restart 2 s

/-- `RC` (R204). -/
def execRc (s : State) : Out := returnIf .c s

/-- `JC a16` (R200). -/
def execJc (w : Word) (s : State) : Out := jumpIf .c w s

/-- `CC a16` (R202). -/
def execCc (w : Word) (s : State) : Out := callIf .c w s

/-- `RST 3` (R205). -/
def execRst3 (s : State) : Out := restart 3 s

/-- `RPO` (R204). -/
def execRpo (s : State) : Out := returnIf .po s

/-- `POP H` (R192). -/
def execPopH (s : State) : Out := popPair .hl s

/-- `JPO a16` (R200). -/
def execJpo (w : Word) (s : State) : Out := jumpIf .po w s

/-- `XTHL` (R194): `t = MemRead(SP, 2); MemWrite(SP, 2, HL); HL <- t`. -/
def execXthl (s : State) : Out :=
  andThen (s.memRead16 s.sp.toNat) fun v =>
    andThen (s.memWrite16 s.sp.toNat s.hl) fun t => .next ((t.setPair .hl v).retire 1)

/-- `CPO a16` (R202). -/
def execCpo (w : Word) (s : State) : Out := callIf .po w s

/-- `PUSH H` (R190). -/
def execPushH (s : State) : Out := pushPair .hl s

/-- `RST 4` (R205). -/
def execRst4 (s : State) : Out := restart 4 s

/-- `RPE` (R204). -/
def execRpe (s : State) : Out := returnIf .pe s

/-- `PCHL` (R206): `PC <- HL`. -/
def execPchl (s : State) : Out := .next (s.retireTo s.hl)

/-- `JPE a16` (R200). -/
def execJpe (w : Word) (s : State) : Out := jumpIf .pe w s

/-- `CPE a16` (R202). -/
def execCpe (w : Word) (s : State) : Out := callIf .pe w s

/-- `RST 5` (R205). -/
def execRst5 (s : State) : Out := restart 5 s

/-- `RP` (R204). -/
def execRp (s : State) : Out := returnIf .p s

/-- `POP PSW` (R193): `v = pop16()`; `A <- v[15:8]`; the flags from `v[7:0]`. -/
def execPopPSW (s : State) : Out :=
  andThen s.pop16 fun r =>
    .next (((r.2.setReg .a (hiByte r.1)).setFlags (flagsOfByte (loByte r.1))).retire 1)

/-- `JP a16` (R200). -/
def execJp (w : Word) (s : State) : Out := jumpIf .p w s

/-- `CP a16` (R202). -/
def execCp (w : Word) (s : State) : Out := callIf .p w s

/-- `PUSH PSW` (R191): `push16(A * 256 + flagbyte())`. -/
def execPushPSW (s : State) : Out :=
  andThen (s.push16 (joinBytes (s.reg .a) (flagByte s.flags))) fun t => .next (t.retire 1)

/-- `RST 6` (R205). -/
def execRst6 (s : State) : Out := restart 6 s

/-- `RM` (R204). -/
def execRm (s : State) : Out := returnIf .m s

/-- `SPHL` (R195): `SP <- HL`. -/
def execSphl (s : State) : Out := .next ((s.setSp s.hl).retire 1)

/-- `JM a16` (R200). -/
def execJm (w : Word) (s : State) : Out := jumpIf .m w s

/-- `CM a16` (R202). -/
def execCm (w : Word) (s : State) : Out := callIf .m w s

/-- `RST 7` (R205). -/
def execRst7 (s : State) : Out := restart 7 s

end Sys2Proof.Machine
end

