-- ==== Sys2Proof/Machine/MachineControl.lean ====
section
/-! DEFINITION. Interrupt control, halt, no-operation and the 12 undocumented first bytes
(46_interrupt_machine_control.md R230 to R238). -/

namespace Sys2Proof.Machine

/-- The effect of `NOP` (R237): `PC` advances. -/
def noOperation (s : State) : Out := .next (s.retire 1)

/-- An undocumented first byte `opcode` (R238): under the policy `fault` it raises `UnimplementedOpcode`; under `alias`
it executes as the instruction `asAlias` it aliases on the Intel 8080. -/
def undocumented (opcode : Byte) (asAlias : State → Out) (s : State) : Out :=
  match s.cfg.undocPolicy with
  | .fault => .next (s.raiseUnimplemented opcode)
  | .aliased => asAlias s

/-- The alias `JMP a16` (R238): `imm16` is read from memory after the opcode byte, then as R199. -/
def jumpAlias (s : State) : Out := andThen s.imm16AfterPc fun w => jumpTo w s

/-- The alias `CALL a16` (R238): `imm16` is read from memory after the opcode byte, then as R201. -/
def callAlias (s : State) : Out := andThen s.imm16AfterPc fun w => callSub w s

/-- `NOP` (R237). -/
def execNop (s : State) : Out := noOperation s

/-- The undocumented byte `0x08`, alias of `NOP` (R238). -/
def execUndoc08 (s : State) : Out := undocumented 0x08 noOperation s

/-- The undocumented byte `0x10`, alias of `NOP` (R238). -/
def execUndoc10 (s : State) : Out := undocumented 0x10 noOperation s

/-- The undocumented byte `0x18`, alias of `NOP` (R238). -/
def execUndoc18 (s : State) : Out := undocumented 0x18 noOperation s

/-- The undocumented byte `0x20`, alias of `NOP` (R238). -/
def execUndoc20 (s : State) : Out := undocumented 0x20 noOperation s

/-- The undocumented byte `0x28`, alias of `NOP` (R238). -/
def execUndoc28 (s : State) : Out := undocumented 0x28 noOperation s

/-- The undocumented byte `0x30`, alias of `NOP` (R238). -/
def execUndoc30 (s : State) : Out := undocumented 0x30 noOperation s

/-- The undocumented byte `0x38`, alias of `NOP` (R238). -/
def execUndoc38 (s : State) : Out := undocumented 0x38 noOperation s

/-- `HLT` (R236): `HALTED <- 1`; `PC` advances. -/
def execHlt (s : State) : Out := .next ({ s with halted := true }.retire 1)

/-- The undocumented byte `0xCB`, alias of `JMP` (R238). -/
def execUndocCB (s : State) : Out := undocumented 0xCB jumpAlias s

/-- The undocumented byte `0xD9`, alias of `RET` (R238). -/
def execUndocD9 (s : State) : Out := undocumented 0xD9 State.returnFrom s

/-- The undocumented byte `0xDD`, alias of `CALL` (R238). -/
def execUndocDD (s : State) : Out := undocumented 0xDD callAlias s

/-- The undocumented byte `0xED`, alias of `CALL` (R238). -/
def execUndocED (s : State) : Out := undocumented 0xED callAlias s

/-- `DI` (R235): `INTE <- 0`. -/
def execDi (s : State) : Out := .next ({ s with inte := false }.retire 1)

/-- `EI` (R234): `INTE <- 1`, in force at once. -/
def execEi (s : State) : Out := .next ({ s with inte := true }.retire 1)

/-- The undocumented byte `0xFD`, alias of `CALL` (R238). -/
def execUndocFD (s : State) : Out := undocumented 0xFD callAlias s

end Sys2Proof.Machine
end

