-- ==== Sys2Proof/Machine/Rotate.lean ====
section
/-! DEFINITION. The rotate instructions (43_rotate.md R180 to R183): `A` by one bit, `CY` the only flag written. -/

namespace Sys2Proof.Machine

/-- `RLC` (R180). -/
def execRlc (s : State) : Out := onAccumulator rotLeft s

/-- `RRC` (R181). -/
def execRrc (s : State) : Out := onAccumulator rotRight s

/-- `RAL` (R182). -/
def execRal (s : State) : Out := onAccumulator rotLeftCarry s

/-- `RAR` (R183). -/
def execRar (s : State) : Out := onAccumulator rotRightCarry s

end Sys2Proof.Machine
end

