-- ==== Sys2Proof/WellFormed.lean ====
section
/-! DEFINITION. Well-formedness: what the types of Syntax and Config do not already say.
An `Instr` is well-formed by its types: every register, pair, condition and restart number is part of its constructor,
and "the immediate bytes of F2 and F3 can take every value" (30_encoding.md R78), which is what `Byte` and `Word`
hold. So there is no check on `Instr` to fail. What can be ill-formed is a run's parameters (00_scope.md R4) and a
string of bytes that claims to be one instruction (30_encoding.md R70). -/

namespace Sys2Proof

/-- `MEM_SIZE` is "integer, 1 to 65536" (00_scope.md R4). -/
def Config.wf (c : Config) : Bool := decide (1 ≤ c.memSize) && decide (c.memSize ≤ 65536)

/-- A byte string that is exactly one instruction: an opcode byte and as many immediate bytes as its length says
(30_encoding.md R70); `len` is the length function of the opcode byte. -/
def wellFormedBytes (len : Byte → Nat) : List Byte → Bool
  | [] => false
  | op :: rest => decide (rest.length + 1 = len op)

end Sys2Proof
end

