-- ==== Sys2Proof/Decode.lean ====
section
/-! DEFINITION. Decoding and encoding (30_encoding.md R70 to R85).
The DECODER is written from the spec's bit patterns: groups `qq`, the fields of R72 and the field codes of R74, R75,
R79, R81. The ENCODER is written from the complete map of R80, one byte value per row. The two are independent
readings of the spec, and the round trip compares them byte for byte.
The opcode map is the published Intel 8080's, as the spec supplies it (PRESUMED by the spec, log entry 13). -/

namespace Sys2Proof

/-! ## Rows named by their fields

One name for the rows that share a pattern of R80: `Instr.mov d r` is the row `MOV d,r`. -/

/-- `01dddsss`, neither code 110: the row `MOV d,r` (R80, R100). -/
def Instr.mov : Reg8 → Reg8 → Instr
  | .b, .b => .movBB | .b, .c => .movBC | .b, .d => .movBD | .b, .e => .movBE | .b, .h => .movBH | .b, .l => .movBL | .b, .a => .movBA
  | .c, .b => .movCB | .c, .c => .movCC | .c, .d => .movCD | .c, .e => .movCE | .c, .h => .movCH | .c, .l => .movCL | .c, .a => .movCA
  | .d, .b => .movDB | .d, .c => .movDC | .d, .d => .movDD | .d, .e => .movDE | .d, .h => .movDH | .d, .l => .movDL | .d, .a => .movDA
  | .e, .b => .movEB | .e, .c => .movEC | .e, .d => .movED | .e, .e => .movEE | .e, .h => .movEH | .e, .l => .movEL | .e, .a => .movEA
  | .h, .b => .movHB | .h, .c => .movHC | .h, .d => .movHD | .h, .e => .movHE | .h, .h => .movHH | .h, .l => .movHL | .h, .a => .movHA
  | .l, .b => .movLB | .l, .c => .movLC | .l, .d => .movLD | .l, .e => .movLE | .l, .h => .movLH | .l, .l => .movLL | .l, .a => .movLA
  | .a, .b => .movAB | .a, .c => .movAC | .a, .d => .movAD | .a, .e => .movAE | .a, .h => .movAH | .a, .l => .movAL | .a, .a => .movAA

/-- `01ddd110`: the row `MOV d,M` (R80, R101). -/
def Instr.movFromM : Reg8 → Instr
  | .b => .movBM
  | .c => .movCM
  | .d => .movDM
  | .e => .movEM
  | .h => .movHM
  | .l => .movLM
  | .a => .movAM

/-- `01110sss`: the row `MOV M,r` (R80, R102). -/
def Instr.movToM : Reg8 → Instr
  | .b => .movMB
  | .c => .movMC
  | .d => .movMD
  | .e => .movME
  | .h => .movMH
  | .l => .movML
  | .a => .movMA

/-- `00ddd110`: the row `MVI d,d8` (R80, R103). -/
def Instr.mvi : Reg8 → Byte → Instr
  | .b, v => .mviB v
  | .c, v => .mviC v
  | .d, v => .mviD v
  | .e, v => .mviE v
  | .h, v => .mviH v
  | .l, v => .mviL v
  | .a, v => .mviA v

/-- `00ddd100`: the row `INR d` (R80, R136). -/
def Instr.inr : Reg8 → Instr
  | .b => .inrB
  | .c => .inrC
  | .d => .inrD
  | .e => .inrE
  | .h => .inrH
  | .l => .inrL
  | .a => .inrA

/-- `00ddd101`: the row `DCR d` (R80, R138). -/
def Instr.dcr : Reg8 → Instr
  | .b => .dcrB
  | .c => .dcrC
  | .d => .dcrD
  | .e => .dcrE
  | .h => .dcrH
  | .l => .dcrL
  | .a => .dcrA

/-- `00rp0001`: the row `LXI rp,d16` (R80, R105). -/
def Instr.lxi : Pair16 → Word → Instr
  | .bc, v => .lxiB v
  | .de, v => .lxiD v
  | .hl, v => .lxiH v
  | .sp, v => .lxiSP v

/-- `00rp0011`: the row `INX rp` (R80, R140). -/
def Instr.inx : Pair16 → Instr
  | .bc => .inxB
  | .de => .inxD
  | .hl => .inxH
  | .sp => .inxSP

/-- `00rp1011`: the row `DCX rp` (R80, R141). -/
def Instr.dcx : Pair16 → Instr
  | .bc => .dcxB
  | .de => .dcxD
  | .hl => .dcxH
  | .sp => .dcxSP

/-- `00rp1001`: the row `DAD rp` (R80, R142). -/
def Instr.dad : Pair16 → Instr
  | .bc => .dadB
  | .de => .dadD
  | .hl => .dadH
  | .sp => .dadSP

/-- `000r1010`: the row `LDAX rp` (R80, R110). -/
def Instr.ldax : IndPair → Instr
  | .bc => .ldaxB
  | .de => .ldaxD

/-- `000r0010`: the row `STAX rp` (R80, R111). -/
def Instr.stax : IndPair → Instr
  | .bc => .staxB
  | .de => .staxD

/-- `11rp0101`, rp not 11: the row `PUSH rp` (R80, R190). -/
def Instr.push : RegPair → Instr
  | .bc => .pushB
  | .de => .pushD
  | .hl => .pushH

/-- `11rp0001`, rp not 11: the row `POP rp` (R80, R192). -/
def Instr.pop : RegPair → Instr
  | .bc => .popB
  | .de => .popD
  | .hl => .popH

/-- `11ccc010`: the row `Jcc a16` (R80, R200). -/
def Instr.jcc : Cond → Word → Instr
  | .nz, v => .jnz v
  | .z, v => .jz v
  | .nc, v => .jnc v
  | .c, v => .jc v
  | .po, v => .jpo v
  | .pe, v => .jpe v
  | .p, v => .jp v
  | .m, v => .jm v

/-- `11ccc100`: the row `Ccc a16` (R80, R202). -/
def Instr.ccc : Cond → Word → Instr
  | .nz, v => .cnz v
  | .z, v => .cz v
  | .nc, v => .cnc v
  | .c, v => .cc v
  | .po, v => .cpo v
  | .pe, v => .cpe v
  | .p, v => .cp v
  | .m, v => .cm v

/-- `11ccc000`: the row `Rcc` (R80, R204). -/
def Instr.rcc : Cond → Instr
  | .nz => .rnz
  | .z => .rz
  | .nc => .rnc
  | .c => .rc
  | .po => .rpo
  | .pe => .rpe
  | .p => .rp
  | .m => .rm

/-- `10ooosss`, `10ooo110` and `11ooo110`: the row of ALU operation `ooo` on a register, on `M` or on `imm8`
(R80, R81). -/
def Instr.alu : AluOp → Src8 → Instr
  | .add, .reg .b => .addB | .add, .reg .c => .addC | .add, .reg .d => .addD | .add, .reg .e => .addE | .add, .reg .h => .addH | .add, .reg .l => .addL
  | .add, .reg .a => .addA | .add, .m => .addM | .add, .imm v => .adi v
  | .adc, .reg .b => .adcB | .adc, .reg .c => .adcC | .adc, .reg .d => .adcD | .adc, .reg .e => .adcE | .adc, .reg .h => .adcH | .adc, .reg .l => .adcL
  | .adc, .reg .a => .adcA | .adc, .m => .adcM | .adc, .imm v => .aci v
  | .sub, .reg .b => .subB | .sub, .reg .c => .subC | .sub, .reg .d => .subD | .sub, .reg .e => .subE | .sub, .reg .h => .subH | .sub, .reg .l => .subL
  | .sub, .reg .a => .subA | .sub, .m => .subM | .sub, .imm v => .sui v
  | .sbb, .reg .b => .sbbB | .sbb, .reg .c => .sbbC | .sbb, .reg .d => .sbbD | .sbb, .reg .e => .sbbE | .sbb, .reg .h => .sbbH | .sbb, .reg .l => .sbbL
  | .sbb, .reg .a => .sbbA | .sbb, .m => .sbbM | .sbb, .imm v => .sbi v
  | .ana, .reg .b => .anaB | .ana, .reg .c => .anaC | .ana, .reg .d => .anaD | .ana, .reg .e => .anaE | .ana, .reg .h => .anaH | .ana, .reg .l => .anaL
  | .ana, .reg .a => .anaA | .ana, .m => .anaM | .ana, .imm v => .ani v
  | .xra, .reg .b => .xraB | .xra, .reg .c => .xraC | .xra, .reg .d => .xraD | .xra, .reg .e => .xraE | .xra, .reg .h => .xraH | .xra, .reg .l => .xraL
  | .xra, .reg .a => .xraA | .xra, .m => .xraM | .xra, .imm v => .xri v
  | .ora, .reg .b => .oraB | .ora, .reg .c => .oraC | .ora, .reg .d => .oraD | .ora, .reg .e => .oraE | .ora, .reg .h => .oraH | .ora, .reg .l => .oraL
  | .ora, .reg .a => .oraA | .ora, .m => .oraM | .ora, .imm v => .ori v
  | .cmp, .reg .b => .cmpB | .cmp, .reg .c => .cmpC | .cmp, .reg .d => .cmpD | .cmp, .reg .e => .cmpE | .cmp, .reg .h => .cmpH | .cmp, .reg .l => .cmpL
  | .cmp, .reg .a => .cmpA | .cmp, .m => .cmpM | .cmp, .imm v => .cpi v

/-- `11nnn111`: the row `RST n` (R80, R205). -/
def Instr.rst : Fin 8 → Instr
  | 0 => .rst0
  | 1 => .rst1
  | 2 => .rst2
  | 3 => .rst3
  | 4 => .rst4
  | 5 => .rst5
  | 6 => .rst6
  | 7 => .rst7

/-! ## Field codes -/

/-- Register codes `ddd`, `sss` (R74); code 110 is the memory operand `M`, no register. -/
def regOfCode : Nat → Option Reg8
  | 0 => some .b | 1 => some .c | 2 => some .d | 3 => some .e
  | 4 => some .h | 5 => some .l | 6 => none | _ => some .a

/-- Pair codes in `LXI`, `INX`, `DCX`, `DAD` (R75, first row). -/
def pairOfCode : Nat → Pair16
  | 0 => .bc | 1 => .de | 2 => .hl | _ => .sp

/-- Pair codes in `PUSH`, `POP` (R75, second row); code 11 is `PSW`, no pair. -/
def stackPairOfCode : Nat → Option RegPair
  | 0 => some .bc | 1 => some .de | 2 => some .hl | _ => none

/-- Condition codes `ccc` (R79). -/
def condOfCode : Nat → Cond
  | 0 => .nz | 1 => .z | 2 => .nc | 3 => .c | 4 => .po | 5 => .pe | 6 => .p | _ => .m

/-- ALU operation codes `ooo` (R81). -/
def aluOfCode : Nat → AluOp
  | 0 => .add | 1 => .adc | 2 => .sub | 3 => .sbb | 4 => .ana | 5 => .xra | 6 => .ora | _ => .cmp

/-- The source operand `sss` of group `10`: a register or `M` (R74). -/
def srcOfCode (n : Nat) : Src8 :=
  match regOfCode n with
  | some r => .reg r
  | none => .m

/-! ## The decoder -/

/-- Group `00` (R80): by the low three bits. `b2` is byte 2 of the instruction, `w` its `imm16`. -/
def decodeMisc (op b2 : Byte) (w : Word) : Instr :=
  match fieldLow op with
  | 0 => match fieldMid op with
    | 0 => .nop | 1 => .undoc08 | 2 => .undoc10 | 3 => .undoc18
    | 4 => .undoc20 | 5 => .undoc28 | 6 => .undoc30 | _ => .undoc38
  | 1 => if fieldBit3 op = 0 then .lxi (pairOfCode (fieldRp op)) w else .dad (pairOfCode (fieldRp op))
  | 2 => match fieldMid op with
    | 0 => .stax .bc | 1 => .ldax .bc | 2 => .stax .de | 3 => .ldax .de
    | 4 => .shld w | 5 => .lhld w | 6 => .sta w | _ => .lda w
  | 3 => if fieldBit3 op = 0 then .inx (pairOfCode (fieldRp op)) else .dcx (pairOfCode (fieldRp op))
  | 4 => match regOfCode (fieldMid op) with
    | some r => .inr r | none => .inrM
  | 5 => match regOfCode (fieldMid op) with
    | some r => .dcr r | none => .dcrM
  | 6 => match regOfCode (fieldMid op) with
    | some r => .mvi r b2 | none => .mviM b2
  | _ => match fieldMid op with
    | 0 => .rlc | 1 => .rrc | 2 => .ral | 3 => .rar | 4 => .daa | 5 => .cma | 6 => .stc | _ => .cmc

/-- Group `01` (R80): `MOV`, with `HLT` in the slot of `MOV M,M` (R74). -/
def decodeMov (op : Byte) : Instr :=
  match regOfCode (fieldMid op), regOfCode (fieldLow op) with
  | some dst, some src => .mov dst src
  | some dst, none => .movFromM dst
  | none, some src => .movToM src
  | none, none => .hlt

/-- Group `11` (R80): by the low three bits. -/
def decodeControl (op b2 : Byte) (w : Word) : Instr :=
  match fieldLow op with
  | 0 => .rcc (condOfCode (fieldMid op))
  | 1 =>
    if fieldBit3 op = 0 then
      match stackPairOfCode (fieldRp op) with
      | some p => .pop p | none => .popPSW
    else match fieldRp op with
      | 0 => .ret | 1 => .undocD9 | 2 => .pchl | _ => .sphl
  | 2 => .jcc (condOfCode (fieldMid op)) w
  | 3 => match fieldMid op with
    | 0 => .jmp w | 1 => .undocCB | 2 => .outPort b2 | 3 => .inPort b2
    | 4 => .xthl | 5 => .xchg | 6 => .di | _ => .ei
  | 4 => .ccc (condOfCode (fieldMid op)) w
  | 5 =>
    if fieldBit3 op = 0 then
      match stackPairOfCode (fieldRp op) with
      | some p => .push p | none => .pushPSW
    else match fieldRp op with
      | 0 => .call w | 1 => .undocDD | 2 => .undocED | _ => .undocFD
  | 6 => .alu (aluOfCode (fieldMid op)) (.imm b2)
  | _ => .rst (Fin.ofNat 8 (fieldMid op))

/-- The instruction whose opcode byte is `op` and whose bytes 2 and 3, where it has them, are `b2` and `b3`; total on
every byte value (R73). `imm16` has its low byte first (R77). -/
def instrOf (op b2 b3 : Byte) : Instr :=
  match fieldQQ op with
  | 0 => decodeMisc op b2 (joinBytes b3 b2)
  | 1 => decodeMov op
  | 2 => .alu (aluOfCode (fieldMid op)) (srcOfCode (fieldLow op))
  | _ => decodeControl op b2 (joinBytes b3 b2)

/-- The length in bytes of the instruction whose opcode byte is `op` (R70): "a function of the opcode byte alone".
The 12 undocumented bytes have length 1, the table's (R85). -/
def opcodeLength (op : Byte) : Nat :=
  if op &&& 0xCF = 0x01 ∨ op &&& 0xE7 = 0x22 ∨ op &&& 0xC7 = 0xC2 ∨ op = 0xC3 ∨ op &&& 0xC7 = 0xC4 ∨ op = 0xCD then 3
  else if op &&& 0xC7 = 0x06 ∨ op &&& 0xC7 = 0xC6 ∨ op = 0xD3 ∨ op = 0xDB then 2
  else 1

/-- Why a byte string is no instruction. No byte value is: decoding is total on the opcode byte (R73). -/
inductive DecodeError where
  /-- there is no opcode byte -/
  | noOpcode
  /-- the opcode byte `op` needs more immediate bytes than there are -/
  | truncated (op : Byte)
  deriving DecidableEq, Repr

/-- Decode the instruction at the head of a byte string: the instruction and the bytes after it. Total on any bytes;
rejects by name. -/
def decode : List Byte → Except DecodeError (Instr × List Byte)
  | [] => .error .noOpcode
  | op :: rest =>
    match opcodeLength op, rest with
    | 3, b2 :: b3 :: rest => .ok (instrOf op b2 b3, rest)
    | 3, _ => .error (.truncated op)
    | 2, b2 :: rest => .ok (instrOf op b2 0, rest)
    | 2, [] => .error (.truncated op)
    | _, rest => .ok (instrOf op 0 0, rest)

/-! ## The encoder -/

/-- The bytes of an instruction (R71: opcode, then `imm8`, or the low and the high byte of `imm16`), the opcode byte
from the map of R80. -/
def encode : Instr → List Byte
  | .nop => [0x00]
  | .lxiB w => [0x01, loByte w, hiByte w]
  | .staxB => [0x02]
  | .inxB => [0x03]
  | .inrB => [0x04]
  | .dcrB => [0x05]
  | .mviB v => [0x06, v]
  | .rlc => [0x07]
  | .undoc08 => [0x08]
  | .dadB => [0x09]
  | .ldaxB => [0x0A]
  | .dcxB => [0x0B]
  | .inrC => [0x0C]
  | .dcrC => [0x0D]
  | .mviC v => [0x0E, v]
  | .rrc => [0x0F]
  | .undoc10 => [0x10]
  | .lxiD w => [0x11, loByte w, hiByte w]
  | .staxD => [0x12]
  | .inxD => [0x13]
  | .inrD => [0x14]
  | .dcrD => [0x15]
  | .mviD v => [0x16, v]
  | .ral => [0x17]
  | .undoc18 => [0x18]
  | .dadD => [0x19]
  | .ldaxD => [0x1A]
  | .dcxD => [0x1B]
  | .inrE => [0x1C]
  | .dcrE => [0x1D]
  | .mviE v => [0x1E, v]
  | .rar => [0x1F]
  | .undoc20 => [0x20]
  | .lxiH w => [0x21, loByte w, hiByte w]
  | .shld w => [0x22, loByte w, hiByte w]
  | .inxH => [0x23]
  | .inrH => [0x24]
  | .dcrH => [0x25]
  | .mviH v => [0x26, v]
  | .daa => [0x27]
  | .undoc28 => [0x28]
  | .dadH => [0x29]
  | .lhld w => [0x2A, loByte w, hiByte w]
  | .dcxH => [0x2B]
  | .inrL => [0x2C]
  | .dcrL => [0x2D]
  | .mviL v => [0x2E, v]
  | .cma => [0x2F]
  | .undoc30 => [0x30]
  | .lxiSP w => [0x31, loByte w, hiByte w]
  | .sta w => [0x32, loByte w, hiByte w]
  | .inxSP => [0x33]
  | .inrM => [0x34]
  | .dcrM => [0x35]
  | .mviM v => [0x36, v]
  | .stc => [0x37]
  | .undoc38 => [0x38]
  | .dadSP => [0x39]
  | .lda w => [0x3A, loByte w, hiByte w]
  | .dcxSP => [0x3B]
  | .inrA => [0x3C]
  | .dcrA => [0x3D]
  | .mviA v => [0x3E, v]
  | .cmc => [0x3F]
  | .movBB => [0x40]
  | .movBC => [0x41]
  | .movBD => [0x42]
  | .movBE => [0x43]
  | .movBH => [0x44]
  | .movBL => [0x45]
  | .movBM => [0x46]
  | .movBA => [0x47]
  | .movCB => [0x48]
  | .movCC => [0x49]
  | .movCD => [0x4A]
  | .movCE => [0x4B]
  | .movCH => [0x4C]
  | .movCL => [0x4D]
  | .movCM => [0x4E]
  | .movCA => [0x4F]
  | .movDB => [0x50]
  | .movDC => [0x51]
  | .movDD => [0x52]
  | .movDE => [0x53]
  | .movDH => [0x54]
  | .movDL => [0x55]
  | .movDM => [0x56]
  | .movDA => [0x57]
  | .movEB => [0x58]
  | .movEC => [0x59]
  | .movED => [0x5A]
  | .movEE => [0x5B]
  | .movEH => [0x5C]
  | .movEL => [0x5D]
  | .movEM => [0x5E]
  | .movEA => [0x5F]
  | .movHB => [0x60]
  | .movHC => [0x61]
  | .movHD => [0x62]
  | .movHE => [0x63]
  | .movHH => [0x64]
  | .movHL => [0x65]
  | .movHM => [0x66]
  | .movHA => [0x67]
  | .movLB => [0x68]
  | .movLC => [0x69]
  | .movLD => [0x6A]
  | .movLE => [0x6B]
  | .movLH => [0x6C]
  | .movLL => [0x6D]
  | .movLM => [0x6E]
  | .movLA => [0x6F]
  | .movMB => [0x70]
  | .movMC => [0x71]
  | .movMD => [0x72]
  | .movME => [0x73]
  | .movMH => [0x74]
  | .movML => [0x75]
  | .hlt => [0x76]
  | .movMA => [0x77]
  | .movAB => [0x78]
  | .movAC => [0x79]
  | .movAD => [0x7A]
  | .movAE => [0x7B]
  | .movAH => [0x7C]
  | .movAL => [0x7D]
  | .movAM => [0x7E]
  | .movAA => [0x7F]
  | .addB => [0x80]
  | .addC => [0x81]
  | .addD => [0x82]
  | .addE => [0x83]
  | .addH => [0x84]
  | .addL => [0x85]
  | .addM => [0x86]
  | .addA => [0x87]
  | .adcB => [0x88]
  | .adcC => [0x89]
  | .adcD => [0x8A]
  | .adcE => [0x8B]
  | .adcH => [0x8C]
  | .adcL => [0x8D]
  | .adcM => [0x8E]
  | .adcA => [0x8F]
  | .subB => [0x90]
  | .subC => [0x91]
  | .subD => [0x92]
  | .subE => [0x93]
  | .subH => [0x94]
  | .subL => [0x95]
  | .subM => [0x96]
  | .subA => [0x97]
  | .sbbB => [0x98]
  | .sbbC => [0x99]
  | .sbbD => [0x9A]
  | .sbbE => [0x9B]
  | .sbbH => [0x9C]
  | .sbbL => [0x9D]
  | .sbbM => [0x9E]
  | .sbbA => [0x9F]
  | .anaB => [0xA0]
  | .anaC => [0xA1]
  | .anaD => [0xA2]
  | .anaE => [0xA3]
  | .anaH => [0xA4]
  | .anaL => [0xA5]
  | .anaM => [0xA6]
  | .anaA => [0xA7]
  | .xraB => [0xA8]
  | .xraC => [0xA9]
  | .xraD => [0xAA]
  | .xraE => [0xAB]
  | .xraH => [0xAC]
  | .xraL => [0xAD]
  | .xraM => [0xAE]
  | .xraA => [0xAF]
  | .oraB => [0xB0]
  | .oraC => [0xB1]
  | .oraD => [0xB2]
  | .oraE => [0xB3]
  | .oraH => [0xB4]
  | .oraL => [0xB5]
  | .oraM => [0xB6]
  | .oraA => [0xB7]
  | .cmpB => [0xB8]
  | .cmpC => [0xB9]
  | .cmpD => [0xBA]
  | .cmpE => [0xBB]
  | .cmpH => [0xBC]
  | .cmpL => [0xBD]
  | .cmpM => [0xBE]
  | .cmpA => [0xBF]
  | .rnz => [0xC0]
  | .popB => [0xC1]
  | .jnz w => [0xC2, loByte w, hiByte w]
  | .jmp w => [0xC3, loByte w, hiByte w]
  | .cnz w => [0xC4, loByte w, hiByte w]
  | .pushB => [0xC5]
  | .adi v => [0xC6, v]
  | .rst0 => [0xC7]
  | .rz => [0xC8]
  | .ret => [0xC9]
  | .jz w => [0xCA, loByte w, hiByte w]
  | .undocCB => [0xCB]
  | .cz w => [0xCC, loByte w, hiByte w]
  | .call w => [0xCD, loByte w, hiByte w]
  | .aci v => [0xCE, v]
  | .rst1 => [0xCF]
  | .rnc => [0xD0]
  | .popD => [0xD1]
  | .jnc w => [0xD2, loByte w, hiByte w]
  | .outPort v => [0xD3, v]
  | .cnc w => [0xD4, loByte w, hiByte w]
  | .pushD => [0xD5]
  | .sui v => [0xD6, v]
  | .rst2 => [0xD7]
  | .rc => [0xD8]
  | .undocD9 => [0xD9]
  | .jc w => [0xDA, loByte w, hiByte w]
  | .inPort v => [0xDB, v]
  | .cc w => [0xDC, loByte w, hiByte w]
  | .undocDD => [0xDD]
  | .sbi v => [0xDE, v]
  | .rst3 => [0xDF]
  | .rpo => [0xE0]
  | .popH => [0xE1]
  | .jpo w => [0xE2, loByte w, hiByte w]
  | .xthl => [0xE3]
  | .cpo w => [0xE4, loByte w, hiByte w]
  | .pushH => [0xE5]
  | .ani v => [0xE6, v]
  | .rst4 => [0xE7]
  | .rpe => [0xE8]
  | .pchl => [0xE9]
  | .jpe w => [0xEA, loByte w, hiByte w]
  | .xchg => [0xEB]
  | .cpe w => [0xEC, loByte w, hiByte w]
  | .undocED => [0xED]
  | .xri v => [0xEE, v]
  | .rst5 => [0xEF]
  | .rp => [0xF0]
  | .popPSW => [0xF1]
  | .jp w => [0xF2, loByte w, hiByte w]
  | .di => [0xF3]
  | .cp w => [0xF4, loByte w, hiByte w]
  | .pushPSW => [0xF5]
  | .ori v => [0xF6, v]
  | .rst6 => [0xF7]
  | .rm => [0xF8]
  | .sphl => [0xF9]
  | .jm w => [0xFA, loByte w, hiByte w]
  | .ei => [0xFB]
  | .cm w => [0xFC, loByte w, hiByte w]
  | .undocFD => [0xFD]
  | .cpi v => [0xFE, v]
  | .rst7 => [0xFF]

/-- The bytes of a table word: bit 0 is the least significant bit of the FIRST byte, and each later byte's bits count
on from it. Bits above `nbits` are 0; three bytes are the longest instruction (R70). -/
def tableBytes (nbits w : Nat) : List Byte :=
  let v := w % 2 ^ nbits
  [BitVec.ofNat 8 v, BitVec.ofNat 8 (v / 256), BitVec.ofNat 8 (v / 65536)]

/-- The instruction the decoder reads from a table word of `nbits` bits (none where it refuses). -/
def decodeTableWord (nbits w : Nat) : Option Instr :=
  match decode (tableBytes nbits w) with
  | .ok (i, _) => some i
  | .error _ => none

end Sys2Proof
end

