-- ==== Sys2Proof/Machine/Fetch.lean ====
section
/-! DEFINITION. Fetching the instruction at `PC` (60_exceptions.md R240 steps 2 to 5, 30_encoding.md R70, R76, R77) and
placing one there. -/

namespace Sys2Proof.Machine

/-- The byte at `PC + k`, an integer address that is not wrapped (20_memory.md R45). -/
def State.fetchByte (s : State) (k : Nat) : Except Fault Byte := s.memRead (s.pc.toNat + k)

/-- The instruction at `PC`: the opcode byte, then byte 2, then byte 3, as its length says; the first byte outside
memory raises `OutOfBoundsAccess` (60_exceptions.md R248). Immediate bytes are read whether or not a condition holds
(30_encoding.md R77). Every opcode byte has a row, so nothing is refused (R73). -/
def fetchInstr (s : State) : Except Fault Instr :=
  match s.fetchByte 0 with
  | .error f => .error f
  | .ok op =>
    match opcodeLength op with
    | 1 => .ok (instrOf op 0 0)
    | 2 =>
      match s.fetchByte 1 with
      | .error f => .error f
      | .ok b2 => .ok (instrOf op b2 0)
    | _ =>
      match s.fetchByte 1 with
      | .error f => .error f
      | .ok b2 =>
        match s.fetchByte 2 with
        | .error f => .error f
        | .ok b3 => .ok (instrOf op b2 b3)

/-- Store a byte string from address `a` up; a byte that would fall outside memory is left out (log entry 11). -/
def placeBytes (size : Nat) : Memory → Nat → List Byte → Memory
  | m, _, [] => m
  | m, a, v :: rest => placeBytes size (if a < size then m.write a v else m) (a + 1) rest

/-- One executor invocation (60_exceptions.md R240): halted, it returns `Halted` and changes nothing; otherwise it
fetches one instruction and performs it with `perform`. -/
def stepWith (perform : Instr → State → Out) (s : State) : Out :=
  if s.halted then .next { s with result := .halted } else andThen (fetchInstr s) fun i => perform i s

/-- The state with a table word's bytes stored at `PC` and up, `Running`, so that the next step runs it. -/
def placeWord (s : State) (nbits w : Nat) : State :=
  { s with halted := false, mem := placeBytes s.cfg.memSize s.mem s.pc.toNat (tableBytes nbits w) }

end Sys2Proof.Machine
end

