-- ==== Sys2Proof/Machine/Step.lean ====
section
/-! DEFINITION. One step of the machine, and how the host's check places an instruction where the next step fetches. -/

namespace Sys2Proof.Machine

/-- One step (60_exceptions.md R240). -/
def step (s : State) : Host.Outcome State Fault Refusal := stepWith exec s

/-- `s` with the table word `w` of `nbits` bits at `PC` and the core `Running`, so that the next step fetches and runs
it. It stands for the loader, which is outside the machine (00_scope.md R3; log entry 11). -/
def State.withFetchWord (s : State) (nbits w : Nat) : State := placeWord s nbits w

end Sys2Proof.Machine
end

