-- ==== Sys2Proof/Machine/HostMoves.lean ====
section
/-! DEFINITION. What the host may do between steps (60_exceptions.md R256): request an interrupt (R249 to R253), reset
the core (70_reset_and_hazards.md R280), change an input value (20_memory.md R50); and runs that interleave these with
steps in any order. Reading state and memory changes nothing and is no move (R247). -/

namespace Sys2Proof.Machine

/-- `requestInterrupt(vector)` (60_exceptions.md R250, order of checks R248): an invalid vector is a fault, whatever
`INTE` is; `INTE` = 0 drops the request; otherwise the interrupt is taken, unless its push does not fit (R253).
`HALTED` is not looked at (R252). -/
def requestInterrupt (vector : Int) (s : State) : Out :=
  if vector < 0 ∨ 7 < vector then .fault (.invalidInterruptVector vector)
  else if s.inte then andThen (s.takeInterrupt vector.toNat) fun t => .next t
  else .next { s with result := .dropped }

/-- The reset transition (70_reset_and_hazards.md R280): the core's state is made anew, with the host's `ENTRY_PC` and
`ENTRY_SP`; memory, the host's input table, the events already emitted and the run's parameters stay. -/
def State.hostReset (entryPc entrySp : Word) (s : State) : State :=
  { State.reset with
    pc := entryPc
    sp := entrySp
    mem := s.mem
    outputs := s.outputs
    inPorts := s.inPorts
    inCount := s.inCount
    cfg := s.cfg }

/-- The host sets the value an input port returns from now on (20_memory.md R50). -/
def State.setInput (port v : Byte) (s : State) : State := { s with inPorts := s.inPorts.set port.toNat v }

/-- What happens next: the core steps, or the host does something between two steps. -/
inductive Move where
  /-- one executor invocation (60_exceptions.md R240) -/
  | step
  /-- `requestInterrupt(vector)` (60_exceptions.md R250) -/
  | request (vector : Int)
  /-- reset with the given entry values (70_reset_and_hazards.md R280) -/
  | reset (entryPc entrySp : Word)
  /-- the value of an input port changes (20_memory.md R50) -/
  | setInput (port v : Byte)
  deriving DecidableEq, Repr

/-- The outcome of a move. -/
def move (m : Move) (s : State) : Out :=
  match m with
  | .step => step s
  | .request vector => requestInterrupt vector s
  | .reset entryPc entrySp => .next (s.hostReset entryPc entrySp)
  | .setInput port v => .next (s.setInput port v)

/-- The state after a move: a move that ends in a fault leaves the state as it was, and the host may go on from it
(60_exceptions.md R242: "If the host invokes another step without changing anything, the same fault recurs"). -/
def State.after (s : State) (m : Move) : State :=
  match move m s with
  | .next t => t
  | .fault _ => s
  | .refused _ => s

/-- The state after a sequence of moves: any interleaving of steps and host moves (60_exceptions.md R251, R256). -/
def State.afterAll (s : State) : List Move → State
  | [] => s
  | m :: rest => (s.after m).afterAll rest

end Sys2Proof.Machine
end

