-- ==== Sys2Proof/Machine/Stores.lean ====
section
/-! DEFINITION. Where an instruction stores: the addresses the rules of 40_data_transfer.md to 46_interrupt_machine_control.md
write in their `MemWrite` and `push16`, computed from the state before the instruction (70_reset_and_hazards.md R286) by the
expressions the meanings use. The claims about memory are written in it. -/

namespace Sys2Proof.Machine

/-- The two addresses `push16` writes, in its order (44_stack_control.md R196): `SP - 1`, then `SP - 2`. A push that has a
next state has `SP` at least 2, so neither is cut off at 0. -/
def State.pushAddrs (s : State) : List Nat := [s.sp.toNat - 1, s.sp.toNat - 2]

/-- A conditional call pushes if its condition holds, and "touches no stack address" if it does not
(44_stack_control.md R202). -/
def State.callAddrsIf (s : State) (code : Cond) : List Nat := if condHolds code s.flags then s.pushAddrs else []

/-- An undocumented byte that aliases `CALL` pushes under the policy `alias` only (46_interrupt_machine_control.md R238). -/
def State.callAliasAddrs (s : State) : List Nat :=
  match s.cfg.undocPolicy with
  | .fault => []
  | .aliased => s.pushAddrs

/-- The addresses of the bytes instruction `i`, executed in `s`, stores to, in the order of its writes: the byte at `HL`
(R102, R104, R137, R139), at `BC` or `DE` (R111), at `a16` (R107), at `a16` and `a16 + 1` (R109), at `SP` and `SP + 1` (R194),
the two bytes of a push (R190, R191, R201, R202, R205, R238), and none for every other row. -/
def storeAddrs (i : Instr) (s : State) : List Nat :=
  match i with
  | .inrM | .dcrM | .mviM _ | .movMB | .movMC | .movMD | .movME | .movMH | .movML | .movMA => [s.hl.toNat]
  | .staxB => [(s.indPair .bc).toNat]
  | .staxD => [(s.indPair .de).toNat]
  | .sta w => [w.toNat]
  | .shld w => [w.toNat, w.toNat + 1]
  | .pushB | .rst0 | .call _ | .rst1 | .pushD | .rst2 | .rst3 | .pushH | .rst4 | .rst5 | .pushPSW | .rst6
  | .rst7 => s.pushAddrs
  | .cnz _ => s.callAddrsIf .nz
  | .cz _ => s.callAddrsIf .z
  | .cnc _ => s.callAddrsIf .nc
  | .cc _ => s.callAddrsIf .c
  | .cpo _ => s.callAddrsIf .po
  | .cpe _ => s.callAddrsIf .pe
  | .cp _ => s.callAddrsIf .p
  | .cm _ => s.callAddrsIf .m
  | .xthl => [s.sp.toNat, s.sp.toNat + 1]
  | .undocDD | .undocED | .undocFD => s.callAliasAddrs
  | .nop | .lxiB _ | .inxB | .inrB | .dcrB | .mviB _ | .rlc | .undoc08 | .dadB | .ldaxB | .dcxB | .inrC | .dcrC
  | .mviC _ | .rrc | .undoc10 | .lxiD _ | .inxD | .inrD | .dcrD | .mviD _ | .ral | .undoc18 | .dadD | .ldaxD
  | .dcxD | .inrE | .dcrE | .mviE _ | .rar | .undoc20 | .lxiH _ | .inxH | .inrH | .dcrH | .mviH _ | .daa
  | .undoc28 | .dadH | .lhld _ | .dcxH | .inrL | .dcrL | .mviL _ | .cma | .undoc30 | .lxiSP _ | .inxSP | .stc
  | .undoc38 | .dadSP | .lda _ | .dcxSP | .inrA | .dcrA | .mviA _ | .cmc | .movBB | .movBC | .movBD | .movBE
  | .movBH | .movBL | .movBM | .movBA | .movCB | .movCC | .movCD | .movCE | .movCH | .movCL | .movCM | .movCA
  | .movDB | .movDC | .movDD | .movDE | .movDH | .movDL | .movDM | .movDA | .movEB | .movEC | .movED | .movEE
  | .movEH | .movEL | .movEM | .movEA | .movHB | .movHC | .movHD | .movHE | .movHH | .movHL | .movHM | .movHA
  | .movLB | .movLC | .movLD | .movLE | .movLH | .movLL | .movLM | .movLA | .hlt | .movAB | .movAC | .movAD
  | .movAE | .movAH | .movAL | .movAM | .movAA | .addB | .addC | .addD | .addE | .addH | .addL | .addM | .addA
  | .adcB | .adcC | .adcD | .adcE | .adcH | .adcL | .adcM | .adcA | .subB | .subC | .subD | .subE | .subH
  | .subL | .subM | .subA | .sbbB | .sbbC | .sbbD | .sbbE | .sbbH | .sbbL | .sbbM | .sbbA | .anaB | .anaC
  | .anaD | .anaE | .anaH | .anaL | .anaM | .anaA | .xraB | .xraC | .xraD | .xraE | .xraH | .xraL | .xraM
  | .xraA | .oraB | .oraC | .oraD | .oraE | .oraH | .oraL | .oraM | .oraA | .cmpB | .cmpC | .cmpD | .cmpE
  | .cmpH | .cmpL | .cmpM | .cmpA | .rnz | .popB | .jnz _ | .jmp _ | .adi _ | .rz | .ret | .jz _ | .undocCB
  | .aci _ | .rnc | .popD | .jnc _ | .outPort _ | .sui _ | .rc | .undocD9 | .jc _ | .inPort _ | .sbi _ | .rpo
  | .popH | .jpo _ | .ani _ | .rpe | .pchl | .jpe _ | .xchg | .xri _ | .rp | .popPSW | .jp _ | .di | .ori _
  | .rm | .sphl | .jm _ | .ei | .cpi _ => []

end Sys2Proof.Machine
end

