-- ==== Sys2Proof/Safety.lean ====
section
/-! DEFINITION. The terms the claims use: the invariant of the machine, what "unchanged" means piece by piece, and what
a finished run is (60_exceptions.md R266). -/

namespace Sys2Proof.Machine

/-- The machine's invariant: the parameters are in the range of 00_scope.md R4, the memory list is in canonical form
and inside `MEM_SIZE` (20_memory.md R40), and the known input values are in canonical form. -/
def State.Inv (s : State) : Bool :=
  s.cfg.wf && Memory.wf s.cfg.memSize s.mem && PortTable.wf s.inPorts

/-- `bytes` is the encoding of `i`; a step of a running core that finds them at `PC` and up, all inside memory, is `exec i`;
and where one of them is the first outside memory, the step ends in `OutOfBoundsAccess` of its address, which is not
wrapped (30_encoding.md R80, 60_exceptions.md R240, R242; the "Exceptions: fetch" of every instruction's rule). -/
def HasCode (i : Instr) (bytes : List Byte) : Prop :=
  encode i = bytes ∧ ∀ s : State, s.halted = false →
    (∀ k : Nat, k < bytes.length → s.pc.toNat + k < s.cfg.memSize →
      s.mem.read (s.pc.toNat + k) = bytes.getD k 0) →
    (s.pc.toNat + bytes.length ≤ s.cfg.memSize → step s = exec i s) ∧
    (s.cfg.memSize ≤ s.pc.toNat → step s = .fault (.outOfBoundsAccess s.pc.toNat)) ∧
    (∀ k : Nat, 0 < k → k < bytes.length → s.pc.toNat + k = s.cfg.memSize →
      step s = .fault (.outOfBoundsAccess ((s.pc.toNat : Int) + k)))

/-- Every register but those listed holds its old value. -/
def KeepsRegsBut (changed : List Reg8) (s t : State) : Prop := ∀ r : Reg8, r ∉ changed → t.reg r = s.reg r

/-- Every byte of memory but those at the listed addresses reads as before, through the model's read of one byte. -/
def KeepsMemBut (changed : List Nat) (s t : State) : Prop := ∀ a : Nat, a ∉ changed → t.mem.read a = s.mem.read a

/-- All five flags hold their old values. -/
def KeepsFlags (s t : State) : Prop := t.flags = s.flags

/-- `SP` holds its old value. -/
def KeepsSp (s t : State) : Prop := t.sp = s.sp

/-- The control bits `INTE` and `HALTED` hold their old values. -/
def KeepsControl (s t : State) : Prop := t.inte = s.inte ∧ t.halted = s.halted

/-- Nothing crossed the I/O boundary and the run's parameters are the same. -/
def KeepsIo (s t : State) : Prop :=
  t.outputs = s.outputs ∧ t.inPorts = s.inPorts ∧ t.inCount = s.inCount ∧ t.cfg = s.cfg

/-- `s` with other values at the input boundary: another table of known values, another count of `IN` and so other free
values (20_memory.md R50; log entry 4). -/
def State.withInputs (ports : PortTable) (n : Nat) (s : State) : State := { s with inPorts := ports, inCount := n }

/-- The same outcome with those values at the input boundary. -/
def outWithInputs (ports : PortTable) (n : Nat) (o : Out) : Out :=
  match o with
  | .next t => .next (t.withInputs ports n)
  | .fault f => .fault f
  | .refused r => .refused r

/-- One instruction was executed and left `PC` at `target` (60_exceptions.md R240 steps 8 and 9). -/
def ExecutedTo (target : Word) (s t : State) : Prop :=
  t.pc = target ∧ t.icount = s.icount + 1 ∧ t.result = .ok

/-- One instruction of length `len` was executed and `PC` advanced past it (10_state.md R15, R16). -/
def ExecutedPast (len : Nat) (s t : State) : Prop := ExecutedTo (s.pc + BitVec.ofNat 16 len) s t

/-- Everything but the listed registers, the listed bytes of memory, the flags, `SP`, `PC`, `ICOUNT` and the step result
is as before: the part of a frame that every instruction shares. -/
def KeepsAllBut (regs : List Reg8) (addrs : List Nat) (s t : State) : Prop :=
  KeepsRegsBut regs s t ∧ KeepsMemBut addrs s t ∧ KeepsControl s t ∧ KeepsIo s t

/-- The value of an 8-bit source operand in `s`, with what its form needs: `M` needs `HL` inside memory. -/
def HasOperand (s : State) (src : Src8) (v : Byte) : Prop :=
  match src with
  | .reg r => s.reg r = v
  | .m => s.hl.toNat < s.cfg.memSize ∧ s.mem.read s.hl.toNat = v
  | .imm w => w = v

/-- "The number of set bits in the result is even" (10_state.md R20), counted over the eight bits. -/
def EvenOnes (v : Byte) : Prop := ((List.range 8).filter fun k => v.getLsbD k).length % 2 = 0

/-- `Z`, `S` and `P` are those of the 8-bit result `v` (10_state.md R19, R20, R22). -/
def ZspOf (v : Byte) (f : Flags) : Prop :=
  (f.z = true ↔ v.toNat = 0) ∧ (f.s = true ↔ v.toNat ≥ 128) ∧ (f.p = true ↔ EvenOnes v)

/-- The two bytes a push writes are inside memory (44_stack_control.md R196: addresses `SP - 1`, `SP - 2`, not
wrapped). -/
def PushFits (s : State) : Prop := 2 ≤ s.sp.toNat ∧ s.sp.toNat ≤ s.cfg.memSize

/-- The first address of a push that is outside memory, where there is one: `SP - 1`, or `SP - 2` when only that one is
(20_memory.md R46, R47). -/
def pushFaultAddr (s : State) : Int := if s.sp.toNat = 1 then -1 else (s.sp.toNat : Int) - 1

/-- The two bytes a pop reads are inside memory (44_stack_control.md R197: addresses `SP`, `SP + 1`, not wrapped). -/
def PopFits (s : State) : Prop := s.sp.toNat + 1 < s.cfg.memSize

/-- The first address of a pop that is outside memory, where there is one. -/
def popFaultAddr (s : State) : Int := if s.sp.toNat < s.cfg.memSize then (s.sp.toNat : Int) + 1 else s.sp.toNat

/-- `push16(v)` happened (44_stack_control.md R196): the high byte is at `SP - 1`, the low byte at `SP - 2`, no other
byte changed, and `SP` is 2 lower modulo 65536. -/
def Pushes (v : Word) (s t : State) : Prop :=
  t.mem.read (s.sp.toNat - 1) = hiByte v ∧ t.mem.read (s.sp.toNat - 2) = loByte v ∧
    KeepsMemBut [s.sp.toNat - 1, s.sp.toNat - 2] s t ∧ t.sp = s.sp - 2

/-- `pop16()` happened and gave `v` (44_stack_control.md R197): low byte at `SP`, high byte at `SP + 1`, memory as
before, `SP` 2 higher modulo 65536. -/
def Pops (v : Word) (s t : State) : Prop :=
  v = joinBytes (s.mem.read (s.sp.toNat + 1)) (s.mem.read s.sp.toNat) ∧ KeepsMemBut [] s t ∧ t.sp = s.sp + 2

/-- The condition of a conditional form holds (30_encoding.md R79): one flag bit is tested. -/
def CondTrue (code : Cond) (f : Flags) : Prop :=
  match code with
  | .nz => f.z = false
  | .z => f.z = true
  | .nc => f.cy = false
  | .c => f.cy = true
  | .po => f.p = false
  | .pe => f.p = true
  | .p => f.s = false
  | .m => f.s = true

/-! ### Field codes, as the patterns of 30_encoding.md R80 spell them -/

/-- R74. -/
def codeOfReg : Reg8 → Nat
  | .b => 0 | .c => 1 | .d => 2 | .e => 3 | .h => 4 | .l => 5 | .a => 7

/-- R75, first row. -/
def codeOfPair : Pair16 → Nat
  | .bc => 0 | .de => 1 | .hl => 2 | .sp => 3

/-- R75, second row. -/
def codeOfStackPair : RegPair → Nat
  | .bc => 0 | .de => 1 | .hl => 2

/-- R75, third row (bit 4 alone). -/
def codeOfIndPair : IndPair → Nat
  | .bc => 0 | .de => 1

/-- R79. -/
def codeOfCond : Cond → Nat
  | .nz => 0 | .z => 1 | .nc => 2 | .c => 3 | .po => 4 | .pe => 5 | .p => 6 | .m => 7

/-- R81. -/
def codeOfAlu : AluOp → Nat
  | .add => 0 | .adc => 1 | .sub => 2 | .sbb => 3 | .ana => 4 | .xra => 5 | .ora => 6 | .cmp => 7

/-- The bytes of an ALU instruction: `10ooosss`, `10ooo110`, or `11ooo110` and `imm8` (R80, R81). -/
def aluBytes (op : AluOp) : Src8 → List Byte
  | .reg r => [BitVec.ofNat 8 (128 + 8 * codeOfAlu op + codeOfReg r)]
  | .m => [BitVec.ofNat 8 (128 + 8 * codeOfAlu op + 6)]
  | .imm v => [BitVec.ofNat 8 (192 + 8 * codeOfAlu op + 6), v]

/-- The registers a pair operand writes. -/
def regsOfPair : Pair16 → List Reg8
  | .bc => [.b, .c] | .de => [.d, .e] | .hl => [.h, .l] | .sp => []

/-- The 12 undocumented first bytes with their rows (30_encoding.md R78). -/
def undocumentedRows : List (Instr × Byte) :=
  [(.undoc08, 0x08), (.undoc10, 0x10), (.undoc18, 0x18), (.undoc20, 0x20), (.undoc28, 0x28), (.undoc30, 0x30),
   (.undoc38, 0x38), (.undocCB, 0xCB), (.undocD9, 0xD9), (.undocDD, 0xDD), (.undocED, 0xED), (.undocFD, 0xFD)]

/-- The rows of the flag table of 10_state.md R24 that name an instruction: the instructions that write a flag. -/
def WritesFlags (i : Instr) : Prop :=
  (∃ op src, i = Instr.alu op src) ∨ (∃ r, i = Instr.inr r) ∨ (∃ r, i = Instr.dcr r) ∨ i = .inrM ∨ i = .dcrM ∨
    (∃ q, i = Instr.dad q) ∨ i = .daa ∨ i = .rlc ∨ i = .rrc ∨ i = .ral ∨ i = .rar ∨ i = .stc ∨ i = .cmc ∨ i = .popPSW

/-- The state is reachable from `s` by steps and host moves. -/
def ReachableFrom (s t : State) : Prop := ∃ moves : List Move, s.afterAll moves = t

/-- An orderly end of a run (60_exceptions.md R266): the step that set `HALTED` returned `Ok`. -/
def FinishesRun (s t : State) : Prop :=
  s.halted = false ∧ step s = .next t ∧ t.halted = true ∧ t.result = .ok

end Sys2Proof.Machine
end

