-- ==== Sys2Proof/Certificates/Slice0/Obligations.lean ====
section
/-! DEFINITION. The statements for the provers, from the numbered rules of spec/. The words they are built from
(`KeepsAllBut`, `ExecutedPast`, `Pushes`, `Pops`, `HasOperand`, `ZspOf`, …) are defined in Safety.lean.
`HasCode i bytes` says that `bytes` is the encoding of `i`, that a step that finds them at `PC` is `exec i`, and where
the fetch faults. `Inv` is a premise only where a byte just written is read back: the memory list must be canonical for
that; every move keeps it (`EveryMoveKeepsTheInvariant`) and reset has it (`ResetHasTheInvariant`). -/

open Sys2Proof Sys2Proof.Machine

/-! ## Decoding, encoding, fetching -/

/-- Decoding the bytes of any instruction, whatever follows them, gives it back with every operand. -/
def Obligations.DecodeOfEncodeIsTheInstruction : Prop :=
  ∀ (i : Instr) (rest : List Byte), decode (encode i ++ rest) = .ok (i, rest)

/-- Every byte string that decodes is the encoding of what it decodes to, followed by the bytes left over: no two byte
strings mean the same instruction and no bit is dropped. -/
def Obligations.DecodedBytesAreTheEncoding : Prop :=
  ∀ (bytes : List Byte) (i : Instr) (rest : List Byte), decode bytes = .ok (i, rest) → bytes = encode i ++ rest

/-- R73 and R70: decoding is total on the opcode byte, and a string too short for its opcode byte is rejected by that
byte's name. -/
def Obligations.DecodingIsTotalOnTheOpcodeByte : Prop :=
  (∀ op b2 b3 : Byte, ∃ i, decode [op, b2, b3] = .ok (i, [op, b2, b3].drop (opcodeLength op)) ∧
    encode i = [op, b2, b3].take (opcodeLength op)) ∧
  (∀ (op : Byte) (rest : List Byte), rest.length + 1 < opcodeLength op → decode (op :: rest) = .error (.truncated op))

/-- R70 and R78: 26 byte values of length 3, 18 of length 2, and of those of length 1 the 12 undocumented ones and 200
documented ones. -/
def Obligations.OpcodeLengthsAreCounted : Prop :=
  ((List.range 256).filter fun n => opcodeLength (BitVec.ofNat 8 n) = 3).length = 26 ∧
  ((List.range 256).filter fun n => opcodeLength (BitVec.ofNat 8 n) = 2).length = 18 ∧
  ((List.range 256).filter fun n => opcodeLength (BitVec.ofNat 8 n) = 1 ∧
    BitVec.ofNat 8 n ∉ undocumentedRows.map Prod.snd).length = 200

/-- Words written out from the patterns of R80, one of every family, decode to the instructions they stand for. -/
def Obligations.WrittenOutWordsDecode : Prop :=
  decode [0b01000001] = .ok (.movBC, []) ∧ decode [0b01111110] = .ok (.movAM, []) ∧
  decode [0b00110110, 0xFF] = .ok (.mviM 0xFF, []) ∧ decode [0b00100001, 0x03, 0x01] = .ok (.lxiH 0x0103, []) ∧
  decode [0b00110010, 0xB3, 0x05] = .ok (.sta 0x05B3, []) ∧ decode [0b10000010] = .ok (.addD, []) ∧
  decode [0b11011110, 0x01] = .ok (.sbi 0x01, []) ∧ decode [0b00111001] = .ok (.dadSP, []) ∧
  decode [0b10100110] = .ok (.anaM, []) ∧ decode [0b00011111] = .ok (.rar, []) ∧
  decode [0b11110101] = .ok (.pushPSW, []) ∧ decode [0b11011100, 0x00, 0x20] = .ok (.cc 0x2000, []) ∧
  decode [0b11011111] = .ok (.rst3, []) ∧ decode [0b11010011, 0x10] = .ok (.outPort 0x10, []) ∧
  decode [0b01110110] = .ok (.hlt, []) ∧ decode [0b11001011] = .ok (.undocCB, [])

/-- R240: when the bytes at `PC` are inside memory and decode to `i`, a step of a running core is `exec i`; the step
adds nothing around it. -/
def Obligations.StepRunsTheDecodedInstruction : Prop :=
  ∀ (s : State) (i : Instr) (n : Nat), s.halted = false → s.pc.toNat + n ≤ s.cfg.memSize →
    decode ((List.range n).map fun k => s.mem.read (s.pc.toNat + k)) = .ok (i, []) → step s = exec i s

/-- R242 (fetch rows), R45, R77: an opcode byte or an immediate byte outside memory ends the step with
`OutOfBoundsAccess` of the first such address, not wrapped, whatever the instruction would have done. -/
def Obligations.FetchOutsideMemoryFaults : Prop :=
  ∀ s : State, s.halted = false →
    (s.cfg.memSize ≤ s.pc.toNat → step s = .fault (.outOfBoundsAccess s.pc.toNat)) ∧
    (∀ k : Nat, 1 ≤ k → k < opcodeLength (s.mem.read s.pc.toNat) → s.pc.toNat + k = s.cfg.memSize →
      step s = .fault (.outOfBoundsAccess ((s.pc.toNat : Int) + k)))

/-- R240 step 1: a step of a halted core returns `Halted` and changes nothing (the result it returns is the model's own
output field, log entry 6). -/
def Obligations.HaltedStepDoesNothing : Prop :=
  ∀ s : State, s.halted = true → step s = .next { s with result := .halted }

/-! ## Interrupts -/

/-- R250, with the checks in the order of R248: an invalid vector, a dropped request, a push that does not fit, and
delivery, which saves `PC` as it is, clears `INTE`, jumps to `8 * vector` and changes nothing else. -/
def Obligations.InterruptRequestIsDelivered : Prop :=
  ∀ (s : State) (vector : Int), s.Inv = true →
    (vector < 0 ∨ 7 < vector → requestInterrupt vector s = .fault (.invalidInterruptVector vector)) ∧
    (0 ≤ vector ∧ vector ≤ 7 → s.inte = false → requestInterrupt vector s = .next { s with result := .dropped }) ∧
    (0 ≤ vector ∧ vector ≤ 7 → s.inte = true → ¬ PushFits s →
      requestInterrupt vector s = .fault (.outOfBoundsAccess (pushFaultAddr s))) ∧
    (0 ≤ vector ∧ vector ≤ 7 → s.inte = true → PushFits s → ∃ t, requestInterrupt vector s = .next t ∧
      Pushes s.pc s t ∧ (t.pc.toNat : Int) = 8 * vector ∧ t.inte = false ∧ t.result = .taken ∧
      KeepsRegsBut [] s t ∧ KeepsFlags s t ∧ t.halted = s.halted ∧ t.icount = s.icount ∧ KeepsIo s t)

/-- R252: a request to a halted core with `INTE` = 1 is delivered, `HALTED` stays 1 and every later step returns
`Halted` and changes nothing; with `INTE` = 0 it is dropped. -/
def Obligations.InterruptDoesNotWakeAHaltedCore : Prop :=
  ∀ (s : State) (vector : Int), s.Inv = true → s.halted = true → 0 ≤ vector → vector ≤ 7 →
    (s.inte = true → PushFits s → ∃ t, requestInterrupt vector s = .next t ∧
      Pushes s.pc s t ∧ (t.pc.toNat : Int) = 8 * vector ∧ t.inte = false ∧ t.halted = true ∧
      ∀ n : Nat, t.afterAll (List.replicate (n + 1) .step) = { t with result := .halted }) ∧
    (s.inte = false → requestInterrupt vector s = .next { s with result := .dropped })

/-- R254: `RET` is the return from a handler: taken right after delivery it restores `PC` and `SP`, and it leaves `INTE`
at 0 and every register and flag as it was. -/
def Obligations.ReturnFromInterruptRestoresPcAndSp : Prop :=
  ∀ (s : State) (vector : Int), s.Inv = true → s.inte = true → PushFits s → 0 ≤ vector → vector ≤ 7 →
    ∃ t u, requestInterrupt vector s = .next t ∧ exec .ret t = .next u ∧
      u.pc = s.pc ∧ u.sp = s.sp ∧ u.inte = false ∧ KeepsRegsBut [] s u ∧ KeepsFlags s u

/-! ## Reset and invariants -/

/-- R30 with the defaults of R4: every field of the state after reset that the spec gives a value for. -/
def Obligations.ResetStateIsZeroed : Prop :=
  (∀ r : Reg8, State.reset.reg r = 0) ∧
  State.reset.flags = { z := false, s := false, p := false, cy := false, ac := false } ∧
  flagByte State.reset.flags = 0x02 ∧ State.reset.inte = false ∧ State.reset.halted = false ∧
  State.reset.icount = 0 ∧ State.reset.pc = 0x0000 ∧ State.reset.sp = 0x0000 ∧
  State.reset.cfg.memSize = 65536 ∧ State.reset.cfg.undocPolicy = .fault

/-- R280: reset, from any state, makes the core's state anew with the host's entry values and leaves memory and the
host's input table alone. That the output trace, the count of `IN` and the parameters survive it too (the rest of
`KeepsIo`) is the model's own choice, in no rule (log entries 5, 4 and 1). -/
def Obligations.ResetTransitionMakesTheStateAnew : Prop :=
  ∀ (s : State) (entryPc entrySp : Word), ∃ t, move (.reset entryPc entrySp) s = .next t ∧
    (∀ r : Reg8, t.reg r = 0) ∧ t.flags = { z := false, s := false, p := false, cy := false, ac := false } ∧
    t.inte = false ∧ t.halted = false ∧ t.icount = 0 ∧ t.pc = entryPc ∧ t.sp = entrySp ∧
    KeepsMemBut [] s t ∧ KeepsIo s t

/-- The invariant holds at reset. -/
def Obligations.ResetHasTheInvariant : Prop := State.reset.Inv = true

/-- The invariant (parameters in range, memory and input table canonical, memory inside `MEM_SIZE`) is kept by every
step, every interrupt request, every reset and every change of an input value. -/
def Obligations.EveryMoveKeepsTheInvariant : Prop :=
  ∀ (m : Move) (s t : State), s.Inv = true → move m s = .next t → t.Inv = true

/-- R290 (d), R26: once `HALTED` is 1, through any sequence of moves without a reset it stays 1 and no register, no flag
and not `ICOUNT` changes. -/
def Obligations.HaltedLastsUntilReset : Prop :=
  ∀ (s : State) (moves : List Move), s.halted = true → (∀ m ∈ moves, ∀ p q, m ≠ .reset p q) →
    (s.afterAll moves).halted = true ∧ KeepsRegsBut [] s (s.afterAll moves) ∧ KeepsFlags s (s.afterAll moves) ∧
    (s.afterAll moves).icount = s.icount

/-- R27, R290 (c): a step adds exactly one to `ICOUNT`, unless the core was halted or the step faulted; an interrupt
request never changes it. -/
def Obligations.InstructionCounterCountsExecutedOpcodes : Prop :=
  (∀ s t : State, step s = .next t → t.icount = if s.halted then s.icount else s.icount + 1) ∧
  (∀ (s : State) (f : Fault), step s = .fault f → (s.after .step).icount = s.icount) ∧
  (∀ (s t : State) (vector : Int), requestInterrupt vector s = .next t → t.icount = s.icount)

/-- R290 (g), R42: an instruction that completes changes no byte of memory but those it stores to (`storeAddrs`: at `HL`,
`BC`, `DE`, `a16`, the stack, computed from the state before it), at most two and all inside `MEM_SIZE`; a step of a running
core changes those of the instruction it fetched, and a step of a halted core changes none. -/
def Obligations.StepChangesAtMostTwoBytes : Prop :=
  (∀ (i : Instr) (s t : State), exec i s = .next t →
    (storeAddrs i s).length ≤ 2 ∧ (∀ a ∈ storeAddrs i s, a < s.cfg.memSize) ∧ KeepsMemBut (storeAddrs i s) s t) ∧
  (∀ s t : State, step s = .next t →
    (s.halted = true → KeepsMemBut [] s t) ∧
    (s.halted = false → ∃ i : Instr, fetchInstr s = .ok i ∧ KeepsMemBut (storeAddrs i s) s t))

/-- R241, R242, R244: a step has a next state or it ends in `OutOfBoundsAccess` of an address that does not exist; it
never raises `InvalidInterruptVector` and refuses no instruction. -/
def Obligations.StepFaultsOnlyOutsideMemory : Prop :=
  ∀ s : State, (∃ t, step s = .next t) ∨
    ∃ a : Int, step s = .fault (.outOfBoundsAccess a) ∧ (a < 0 ∨ (s.cfg.memSize : Int) ≤ a)

/-- R4: the parameters of a run are fixed: no move changes them. -/
def Obligations.ParametersAreFixedForARun : Prop :=
  ∀ (m : Move) (s t : State), move m s = .next t → t.cfg = s.cfg

/-- R25: among the instructions, `EI` sets `INTE`, `DI` clears it, and no other one changes it. -/
def Obligations.OnlyEiAndDiChangeInte : Prop :=
  ∀ (i : Instr) (s t : State), exec i s = .next t →
    t.inte = if i = .ei then true else if i = .di then false else s.inte

/-- R26: an instruction run by a running core halts it exactly when it is `HLT`, or an undocumented byte under the
policy `fault`. -/
def Obligations.OnlyHltAndUnimplementedOpcodesHalt : Prop :=
  ∀ (i : Instr) (s t : State), s.halted = false → exec i s = .next t →
    (t.halted = true ↔ i = .hlt ∨ (i ∈ undocumentedRows.map Prod.fst ∧ s.cfg.undocPolicy = .fault))

/-- R48, R49: only `OUT` emits an event, only `IN` reads an input, and no instruction changes the input table. That an
instruction reads no input: whatever the table of known values and the count of `IN` are, it does the same and leaves them
as they are. The trace, the table and the count are the model's own fields (log entries 4 and 5). -/
def Obligations.OnlyInAndOutCrossTheIoBoundary : Prop :=
  (∀ (i : Instr) (s t : State), exec i s = .next t →
    ((∀ p, i ≠ .outPort p) → t.outputs = s.outputs) ∧ ((∀ p, i ≠ .inPort p) → t.inCount = s.inCount) ∧
    t.inPorts = s.inPorts) ∧
  (∀ (i : Instr) (s : State) (ports : PortTable) (n : Nat), (∀ p, i ≠ .inPort p) →
    exec i (s.withInputs ports n) = outWithInputs ports n (exec i s))

/-- R24, the row "every other instruction": an instruction that the flag table does not name changes no flag. -/
def Obligations.InstructionsOutsideTheFlagTableKeepFlags : Prop :=
  ∀ (i : Instr) (s t : State), ¬ WritesFlags i → exec i s = .next t → KeepsFlags s t

/-! ## Data transfer -/

/-- R100: `MOV r1,r2`. -/
def Obligations.MovCopiesARegister : Prop :=
  ∀ (dst src : Reg8) (s : State),
    HasCode (Instr.mov dst src) [BitVec.ofNat 8 (64 + 8 * codeOfReg dst + codeOfReg src)] ∧
    ∃ t, exec (Instr.mov dst src) s = .next t ∧ t.reg dst = s.reg src ∧
      KeepsAllBut [dst] [] s t ∧ KeepsFlags s t ∧ KeepsSp s t ∧ ExecutedPast 1 s t

/-- R101: `MOV r,M`; the address is the `HL` of before the write. -/
def Obligations.MovLoadsThroughHl : Prop :=
  ∀ (dst : Reg8) (s : State),
    HasCode (Instr.movFromM dst) [BitVec.ofNat 8 (64 + 8 * codeOfReg dst + 6)] ∧
    (s.hl.toNat < s.cfg.memSize → ∃ t, exec (Instr.movFromM dst) s = .next t ∧ t.reg dst = s.mem.read s.hl.toNat ∧
      KeepsAllBut [dst] [] s t ∧ KeepsFlags s t ∧ KeepsSp s t ∧ ExecutedPast 1 s t) ∧
    (s.cfg.memSize ≤ s.hl.toNat → exec (Instr.movFromM dst) s = .fault (.outOfBoundsAccess s.hl.toNat))

/-- R102, R104: `MOV M,r` and `MVI M,d8` store one byte at `HL` and change no other. -/
def Obligations.MovAndMviStoreThroughHl : Prop :=
  ∀ s : State, s.Inv = true →
    (∀ src : Reg8, HasCode (Instr.movToM src) [BitVec.ofNat 8 (112 + codeOfReg src)] ∧
      (s.hl.toNat < s.cfg.memSize → ∃ t, exec (Instr.movToM src) s = .next t ∧ t.mem.read s.hl.toNat = s.reg src ∧
        KeepsAllBut [] [s.hl.toNat] s t ∧ KeepsFlags s t ∧ KeepsSp s t ∧ ExecutedPast 1 s t) ∧
      (s.cfg.memSize ≤ s.hl.toNat → exec (Instr.movToM src) s = .fault (.outOfBoundsAccess s.hl.toNat))) ∧
    (∀ v : Byte, HasCode (.mviM v) [0x36, v] ∧
      (s.hl.toNat < s.cfg.memSize → ∃ t, exec (.mviM v) s = .next t ∧ t.mem.read s.hl.toNat = v ∧
        KeepsAllBut [] [s.hl.toNat] s t ∧ KeepsFlags s t ∧ KeepsSp s t ∧ ExecutedPast 2 s t) ∧
      (s.cfg.memSize ≤ s.hl.toNat → exec (.mviM v) s = .fault (.outOfBoundsAccess s.hl.toNat)))

/-- R103: `MVI r,d8`. -/
def Obligations.MviLoadsARegister : Prop :=
  ∀ (dst : Reg8) (v : Byte) (s : State),
    HasCode (Instr.mvi dst v) [BitVec.ofNat 8 (8 * codeOfReg dst + 6), v] ∧
    ∃ t, exec (Instr.mvi dst v) s = .next t ∧ t.reg dst = v ∧
      KeepsAllBut [dst] [] s t ∧ KeepsFlags s t ∧ KeepsSp s t ∧ ExecutedPast 2 s t

/-- R105: `LXI rp,d16`, low byte of the immediate first; `SP` among the destinations. -/
def Obligations.LxiLoadsAPair : Prop :=
  ∀ (q : Pair16) (w : Word) (s : State),
    HasCode (Instr.lxi q w) [BitVec.ofNat 8 (16 * codeOfPair q + 1), loByte w, hiByte w] ∧
    ∃ t, exec (Instr.lxi q w) s = .next t ∧ t.pair16 q = w ∧ (q ≠ .sp → KeepsSp s t) ∧
      KeepsAllBut (regsOfPair q) [] s t ∧ KeepsFlags s t ∧ ExecutedPast 3 s t

/-- R106, R107: `LDA a16` and `STA a16`. -/
def Obligations.LdaAndStaUseADirectAddress : Prop :=
  ∀ (s : State) (w : Word), s.Inv = true →
    HasCode (.lda w) [0x3A, loByte w, hiByte w] ∧ HasCode (.sta w) [0x32, loByte w, hiByte w] ∧
    (w.toNat < s.cfg.memSize →
      (∃ t, exec (.lda w) s = .next t ∧ t.reg .a = s.mem.read w.toNat ∧
        KeepsAllBut [.a] [] s t ∧ KeepsFlags s t ∧ KeepsSp s t ∧ ExecutedPast 3 s t) ∧
      (∃ t, exec (.sta w) s = .next t ∧ t.mem.read w.toNat = s.reg .a ∧
        KeepsAllBut [] [w.toNat] s t ∧ KeepsFlags s t ∧ KeepsSp s t ∧ ExecutedPast 3 s t)) ∧
    (s.cfg.memSize ≤ w.toNat → exec (.lda w) s = .fault (.outOfBoundsAccess w.toNat) ∧
      exec (.sta w) s = .fault (.outOfBoundsAccess w.toNat))

/-- R108, R109, R43: `LHLD a16` and `SHLD a16`: `L` with the byte at `a16`, `H` with the byte at `a16 + 1`, which is not
wrapped; where either byte is outside memory nothing is written. -/
def Obligations.LhldAndShldMoveAPair : Prop :=
  ∀ (s : State) (w : Word), s.Inv = true →
    HasCode (.lhld w) [0x2A, loByte w, hiByte w] ∧ HasCode (.shld w) [0x22, loByte w, hiByte w] ∧
    (w.toNat + 1 < s.cfg.memSize →
      (∃ t, exec (.lhld w) s = .next t ∧ t.reg .l = s.mem.read w.toNat ∧ t.reg .h = s.mem.read (w.toNat + 1) ∧
        KeepsAllBut [.h, .l] [] s t ∧ KeepsFlags s t ∧ KeepsSp s t ∧ ExecutedPast 3 s t) ∧
      (∃ t, exec (.shld w) s = .next t ∧ t.mem.read w.toNat = s.reg .l ∧ t.mem.read (w.toNat + 1) = s.reg .h ∧
        KeepsAllBut [] [w.toNat, w.toNat + 1] s t ∧ KeepsFlags s t ∧ KeepsSp s t ∧ ExecutedPast 3 s t)) ∧
    (s.cfg.memSize ≤ w.toNat → exec (.lhld w) s = .fault (.outOfBoundsAccess w.toNat) ∧
      exec (.shld w) s = .fault (.outOfBoundsAccess w.toNat)) ∧
    (w.toNat + 1 = s.cfg.memSize → exec (.lhld w) s = .fault (.outOfBoundsAccess ((w.toNat : Int) + 1)) ∧
      exec (.shld w) s = .fault (.outOfBoundsAccess ((w.toNat : Int) + 1)))

/-- R110, R111: `LDAX rp` and `STAX rp` through `BC` or `DE`, which keep their values. -/
def Obligations.LdaxAndStaxUseAPairAsAddress : Prop :=
  ∀ (p : IndPair) (s : State), s.Inv = true →
    HasCode (Instr.ldax p) [BitVec.ofNat 8 (16 * codeOfIndPair p + 10)] ∧
    HasCode (Instr.stax p) [BitVec.ofNat 8 (16 * codeOfIndPair p + 2)] ∧
    ((s.indPair p).toNat < s.cfg.memSize →
      (∃ t, exec (Instr.ldax p) s = .next t ∧ t.reg .a = s.mem.read (s.indPair p).toNat ∧
        KeepsAllBut [.a] [] s t ∧ KeepsFlags s t ∧ KeepsSp s t ∧ ExecutedPast 1 s t) ∧
      (∃ t, exec (Instr.stax p) s = .next t ∧ t.mem.read (s.indPair p).toNat = s.reg .a ∧
        KeepsAllBut [] [(s.indPair p).toNat] s t ∧ KeepsFlags s t ∧ KeepsSp s t ∧ ExecutedPast 1 s t)) ∧
    (s.cfg.memSize ≤ (s.indPair p).toNat →
      exec (Instr.ldax p) s = .fault (.outOfBoundsAccess (s.indPair p).toNat) ∧
      exec (Instr.stax p) s = .fault (.outOfBoundsAccess (s.indPair p).toNat))

/-- R112: `XCHG` swaps `HL` with `DE`; twice, both pairs are as before. -/
def Obligations.XchgSwapsHlAndDe : Prop :=
  ∀ s : State, HasCode .xchg [0xEB] ∧
    ∃ t, exec .xchg s = .next t ∧ t.pair .hl = s.pair .de ∧ t.pair .de = s.pair .hl ∧
      KeepsAllBut [.h, .l, .d, .e] [] s t ∧ KeepsFlags s t ∧ KeepsSp s t ∧ ExecutedPast 1 s t ∧
      ∃ u, exec .xchg t = .next u ∧ KeepsRegsBut [] s u

/-! ## Arithmetic and logic -/

/-- R120, R123 to R128: `ADD`, `ADI`, `ADC`, `ACI` on a register, `M` or an immediate. -/
def Obligations.AddAndAdcFollowTheAdder : Prop :=
  ∀ (op : AluOp) (src : Src8) (s : State), op = .add ∨ op = .adc →
    HasCode (Instr.alu op src) (aluBytes op src) ∧
    (∀ (v : Byte) (cin : Nat), HasOperand s src v → cin = (if op = .adc ∧ s.flags.cy = true then 1 else 0) →
      ∃ t, exec (Instr.alu op src) s = .next t ∧
        (t.reg .a).toNat = ((s.reg .a).toNat + v.toNat + cin) % 256 ∧
        (t.flags.cy = true ↔ (s.reg .a).toNat + v.toNat + cin > 255) ∧
        (t.flags.ac = true ↔ (s.reg .a).toNat % 16 + v.toNat % 16 + cin > 15) ∧ ZspOf (t.reg .a) t.flags ∧
        KeepsAllBut [.a] [] s t ∧ KeepsSp s t ∧ ExecutedPast (srcLen src) s t) ∧
    (src = .m → s.cfg.memSize ≤ s.hl.toNat → exec (Instr.alu op src) s = .fault (.outOfBoundsAccess s.hl.toNat))

/-- R121, R129 to R134: `SUB`, `SUI`, `SBB`, `SBI` on a register, `M` or an immediate. -/
def Obligations.SubAndSbbFollowTheSubtractor : Prop :=
  ∀ (op : AluOp) (src : Src8) (s : State), op = .sub ∨ op = .sbb →
    HasCode (Instr.alu op src) (aluBytes op src) ∧
    (∀ (v : Byte) (bin : Nat), HasOperand s src v → bin = (if op = .sbb ∧ s.flags.cy = true then 1 else 0) →
      ∃ t, exec (Instr.alu op src) s = .next t ∧
        ((t.reg .a).toNat : Int) = ((s.reg .a).toNat - v.toNat - bin : Int) % 256 ∧
        (t.flags.cy = true ↔ (s.reg .a).toNat < v.toNat + bin) ∧
        (t.flags.ac = true ↔ (s.reg .a).toNat % 16 ≥ v.toNat % 16 + bin) ∧ ZspOf (t.reg .a) t.flags ∧
        KeepsAllBut [.a] [] s t ∧ KeepsSp s t ∧ ExecutedPast (srcLen src) s t) ∧
    (src = .m → s.cfg.memSize ≤ s.hl.toNat → exec (Instr.alu op src) s = .fault (.outOfBoundsAccess s.hl.toNat))

/-- R121, R146 to R148: `CMP` and `CPI` set the flags of the difference and keep `A`. -/
def Obligations.CompareSetsFlagsOfTheDifference : Prop :=
  ∀ (src : Src8) (s : State),
    HasCode (Instr.alu .cmp src) (aluBytes .cmp src) ∧
    (∀ v : Byte, HasOperand s src v → ∃ (t : State) (diff : Byte), exec (Instr.alu .cmp src) s = .next t ∧
      (diff.toNat : Int) = ((s.reg .a).toNat - v.toNat : Int) % 256 ∧ ZspOf diff t.flags ∧
      (t.flags.cy = true ↔ (s.reg .a).toNat < v.toNat) ∧
      (t.flags.ac = true ↔ (s.reg .a).toNat % 16 ≥ v.toNat % 16) ∧
      KeepsAllBut [] [] s t ∧ KeepsSp s t ∧ ExecutedPast (srcLen src) s t) ∧
    (src = .m → s.cfg.memSize ≤ s.hl.toNat →
      exec (Instr.alu .cmp src) s = .fault (.outOfBoundsAccess s.hl.toNat))

/-- R160 to R169: `ANA`, `ANI`, `XRA`, `XRI`, `ORA`, `ORI`, bit by bit; `CY` cleared, `AC` the OR of bit 3 of the operands
for the and-family and cleared for the others. -/
def Obligations.LogicWorksBitByBit : Prop :=
  ∀ (op : AluOp) (src : Src8) (s : State), op = .ana ∨ op = .xra ∨ op = .ora →
    HasCode (Instr.alu op src) (aluBytes op src) ∧
    (∀ v : Byte, HasOperand s src v → ∃ t, exec (Instr.alu op src) s = .next t ∧
      (∀ k : Nat, k < 8 → (t.reg .a).getLsbD k =
        (if op = .ana then (s.reg .a).getLsbD k && v.getLsbD k
         else if op = .xra then (s.reg .a).getLsbD k != v.getLsbD k
         else (s.reg .a).getLsbD k || v.getLsbD k)) ∧
      ZspOf (t.reg .a) t.flags ∧ t.flags.cy = false ∧
      t.flags.ac = (if op = .ana then (s.reg .a).getLsbD 3 || v.getLsbD 3 else false) ∧
      KeepsAllBut [.a] [] s t ∧ KeepsSp s t ∧ ExecutedPast (srcLen src) s t) ∧
    (src = .m → s.cfg.memSize ≤ s.hl.toNat → exec (Instr.alu op src) s = .fault (.outOfBoundsAccess s.hl.toNat))

/-- R135, R136, R138: `INR r` and `DCR r`; `CY` keeps its value. -/
def Obligations.InrAndDcrStepARegister : Prop :=
  ∀ (r : Reg8) (s : State),
    HasCode (Instr.inr r) [BitVec.ofNat 8 (8 * codeOfReg r + 4)] ∧
    HasCode (Instr.dcr r) [BitVec.ofNat 8 (8 * codeOfReg r + 5)] ∧
    (∃ t, exec (Instr.inr r) s = .next t ∧ (t.reg r).toNat = ((s.reg r).toNat + 1) % 256 ∧
      ZspOf (t.reg r) t.flags ∧ (t.flags.ac = true ↔ (s.reg r).toNat % 16 = 15) ∧ t.flags.cy = s.flags.cy ∧
      KeepsAllBut [r] [] s t ∧ KeepsSp s t ∧ ExecutedPast 1 s t) ∧
    (∃ t, exec (Instr.dcr r) s = .next t ∧ ((t.reg r).toNat : Int) = ((s.reg r).toNat - 1 : Int) % 256 ∧
      ZspOf (t.reg r) t.flags ∧ (t.flags.ac = true ↔ (s.reg r).toNat % 16 ≠ 0) ∧ t.flags.cy = s.flags.cy ∧
      KeepsAllBut [r] [] s t ∧ KeepsSp s t ∧ ExecutedPast 1 s t)

/-- R135, R137, R139: `INR M` and `DCR M` read, step and write the byte at `HL`; `CY` keeps its value. -/
def Obligations.InrAndDcrStepTheByteAtHl : Prop :=
  ∀ s : State, s.Inv = true → HasCode .inrM [0x34] ∧ HasCode .dcrM [0x35] ∧
    (s.hl.toNat < s.cfg.memSize →
      (∃ t, exec .inrM s = .next t ∧
        (t.mem.read s.hl.toNat).toNat = ((s.mem.read s.hl.toNat).toNat + 1) % 256 ∧
        ZspOf (t.mem.read s.hl.toNat) t.flags ∧ (t.flags.ac = true ↔ (s.mem.read s.hl.toNat).toNat % 16 = 15) ∧
        t.flags.cy = s.flags.cy ∧ KeepsAllBut [] [s.hl.toNat] s t ∧ KeepsSp s t ∧ ExecutedPast 1 s t) ∧
      (∃ t, exec .dcrM s = .next t ∧
        ((t.mem.read s.hl.toNat).toNat : Int) = ((s.mem.read s.hl.toNat).toNat - 1 : Int) % 256 ∧
        ZspOf (t.mem.read s.hl.toNat) t.flags ∧ (t.flags.ac = true ↔ (s.mem.read s.hl.toNat).toNat % 16 ≠ 0) ∧
        t.flags.cy = s.flags.cy ∧ KeepsAllBut [] [s.hl.toNat] s t ∧ KeepsSp s t ∧ ExecutedPast 1 s t)) ∧
    (s.cfg.memSize ≤ s.hl.toNat → exec .inrM s = .fault (.outOfBoundsAccess s.hl.toNat) ∧
      exec .dcrM s = .fault (.outOfBoundsAccess s.hl.toNat))

/-- R140, R141: `INX rp` and `DCX rp` step a pair or `SP` modulo 65536 and write no flag. -/
def Obligations.InxAndDcxStepAPair : Prop :=
  ∀ (q : Pair16) (s : State),
    HasCode (Instr.inx q) [BitVec.ofNat 8 (16 * codeOfPair q + 3)] ∧
    HasCode (Instr.dcx q) [BitVec.ofNat 8 (16 * codeOfPair q + 11)] ∧
    (∃ t, exec (Instr.inx q) s = .next t ∧ (t.pair16 q).toNat = ((s.pair16 q).toNat + 1) % 65536 ∧
      (q ≠ .sp → KeepsSp s t) ∧ KeepsAllBut (regsOfPair q) [] s t ∧ KeepsFlags s t ∧ ExecutedPast 1 s t) ∧
    (∃ t, exec (Instr.dcx q) s = .next t ∧ ((t.pair16 q).toNat : Int) = ((s.pair16 q).toNat - 1 : Int) % 65536 ∧
      (q ≠ .sp → KeepsSp s t) ∧ KeepsAllBut (regsOfPair q) [] s t ∧ KeepsFlags s t ∧ ExecutedPast 1 s t)

/-- R142: `DAD rp` adds into `HL` modulo 65536 and writes `CY` only; `DAD SP` keeps `SP`. -/
def Obligations.DadAddsIntoHl : Prop :=
  ∀ (q : Pair16) (s : State),
    HasCode (Instr.dad q) [BitVec.ofNat 8 (16 * codeOfPair q + 9)] ∧
    ∃ t, exec (Instr.dad q) s = .next t ∧ t.hl.toNat = (s.hl.toNat + (s.pair16 q).toNat) % 65536 ∧
      (t.flags.cy = true ↔ s.hl.toNat + (s.pair16 q).toNat > 65535) ∧
      t.flags = { s.flags with cy := t.flags.cy } ∧
      KeepsAllBut [.h, .l] [] s t ∧ KeepsSp s t ∧ ExecutedPast 1 s t

/-- R143: `DAA`, with the correction spelled in numbers. -/
def Obligations.DaaAddsTheDecimalCorrection : Prop :=
  ∀ (s : State) (lo hi corr : Nat) (high : Prop),
    lo = (s.reg .a).toNat % 16 → hi = (s.reg .a).toNat / 16 →
    (high ↔ s.flags.cy = true ∨ hi > 9 ∨ (hi ≥ 9 ∧ lo > 9)) →
    (high → corr = (if s.flags.ac = true ∨ lo > 9 then 6 else 0) + 96) →
    (¬ high → corr = if s.flags.ac = true ∨ lo > 9 then 6 else 0) →
    HasCode .daa [0x27] ∧
    ∃ t, exec .daa s = .next t ∧ (t.reg .a).toNat = ((s.reg .a).toNat + corr) % 256 ∧
      ZspOf (t.reg .a) t.flags ∧ (t.flags.ac = true ↔ lo + corr % 16 > 15) ∧
      (t.flags.cy = true ↔ high ∨ s.flags.cy = true) ∧
      KeepsAllBut [.a] [] s t ∧ KeepsSp s t ∧ ExecutedPast 1 s t

/-- R170, R171, R172: `CMA` complements every bit of `A` and no flag; `CMC` and `STC` write `CY` only. -/
def Obligations.CmaCmcStcWork : Prop :=
  ∀ s : State, HasCode .cma [0x2F] ∧ HasCode .cmc [0x3F] ∧ HasCode .stc [0x37] ∧
    (∃ t, exec .cma s = .next t ∧ (∀ k : Nat, k < 8 → (t.reg .a).getLsbD k = !(s.reg .a).getLsbD k) ∧
      KeepsAllBut [.a] [] s t ∧ KeepsFlags s t ∧ KeepsSp s t ∧ ExecutedPast 1 s t) ∧
    (∃ t, exec .cmc s = .next t ∧ t.flags = { s.flags with cy := !s.flags.cy } ∧
      KeepsAllBut [] [] s t ∧ KeepsSp s t ∧ ExecutedPast 1 s t) ∧
    (∃ t, exec .stc s = .next t ∧ t.flags = { s.flags with cy := true } ∧
      KeepsAllBut [] [] s t ∧ KeepsSp s t ∧ ExecutedPast 1 s t)

/-- R180 to R183: the rotates, bit by bit; `CY` is the bit shifted out and no other flag is written. -/
def Obligations.RotatesMoveEveryBitByOne : Prop :=
  ∀ s : State, HasCode .rlc [0x07] ∧ HasCode .rrc [0x0F] ∧ HasCode .ral [0x17] ∧ HasCode .rar [0x1F] ∧
    (∀ i : Instr, i = .rlc ∨ i = .ral → ∃ t, exec i s = .next t ∧
      (∀ k : Nat, k < 7 → (t.reg .a).getLsbD (k + 1) = (s.reg .a).getLsbD k) ∧
      (t.reg .a).getLsbD 0 = (if i = .rlc then (s.reg .a).getLsbD 7 else s.flags.cy) ∧
      t.flags = { s.flags with cy := (s.reg .a).getLsbD 7 } ∧
      KeepsAllBut [.a] [] s t ∧ KeepsSp s t ∧ ExecutedPast 1 s t) ∧
    (∀ i : Instr, i = .rrc ∨ i = .rar → ∃ t, exec i s = .next t ∧
      (∀ k : Nat, k < 7 → (t.reg .a).getLsbD k = (s.reg .a).getLsbD (k + 1)) ∧
      (t.reg .a).getLsbD 7 = (if i = .rrc then (s.reg .a).getLsbD 0 else s.flags.cy) ∧
      t.flags = { s.flags with cy := (s.reg .a).getLsbD 0 } ∧
      KeepsAllBut [.a] [] s t ∧ KeepsSp s t ∧ ExecutedPast 1 s t)

/-! ## Stack and control transfer -/

/-- R190, R196: `PUSH rp`; the pair keeps its value. -/
def Obligations.PushStoresAPair : Prop :=
  ∀ (p : RegPair) (s : State), s.Inv = true →
    HasCode (Instr.push p) [BitVec.ofNat 8 (192 + 16 * codeOfStackPair p + 5)] ∧
    (PushFits s → ∃ t, exec (Instr.push p) s = .next t ∧ Pushes (s.pair p) s t ∧
      KeepsRegsBut [] s t ∧ KeepsFlags s t ∧ KeepsControl s t ∧ KeepsIo s t ∧ ExecutedPast 1 s t) ∧
    (¬ PushFits s → exec (Instr.push p) s = .fault (.outOfBoundsAccess (pushFaultAddr s)))

/-- R191, R23: `PUSH PSW` pushes `A` and the flag byte, whose bit 1 is 1 and bits 3 and 5 are 0. -/
def Obligations.PushPswStoresAAndTheFlagByte : Prop :=
  ∀ s : State, s.Inv = true → HasCode .pushPSW [0xF5] ∧
    (PushFits s → ∃ (t : State) (f : Byte), exec .pushPSW s = .next t ∧ Pushes (joinBytes (s.reg .a) f) s t ∧
      f.toNat = s.flags.s.toNat * 128 + s.flags.z.toNat * 64 + s.flags.ac.toNat * 16 + s.flags.p.toNat * 4 + 2 +
        s.flags.cy.toNat ∧
      KeepsRegsBut [] s t ∧ KeepsFlags s t ∧ KeepsControl s t ∧ KeepsIo s t ∧ ExecutedPast 1 s t) ∧
    (¬ PushFits s → exec .pushPSW s = .fault (.outOfBoundsAccess (pushFaultAddr s)))

/-- R192, R197: `POP rp`. -/
def Obligations.PopLoadsAPair : Prop :=
  ∀ (p : RegPair) (s : State),
    HasCode (Instr.pop p) [BitVec.ofNat 8 (192 + 16 * codeOfStackPair p + 1)] ∧
    (PopFits s → ∃ t, exec (Instr.pop p) s = .next t ∧ Pops (t.pair p) s t ∧
      KeepsRegsBut [hiReg p, loReg p] s t ∧ KeepsFlags s t ∧ KeepsControl s t ∧ KeepsIo s t ∧ ExecutedPast 1 s t) ∧
    (¬ PopFits s → exec (Instr.pop p) s = .fault (.outOfBoundsAccess (popFaultAddr s)))

/-- R193: `POP PSW` takes `A` from the high byte and the five flags from bits 7, 6, 4, 2, 0 of the low byte. -/
def Obligations.PopPswLoadsAAndTheFlags : Prop :=
  ∀ s : State, HasCode .popPSW [0xF1] ∧
    (PopFits s → ∃ (t : State) (v : Word), exec .popPSW s = .next t ∧ Pops v s t ∧
      (t.reg .a).toNat = v.toNat / 256 ∧ t.flags.s = v.getLsbD 7 ∧ t.flags.z = v.getLsbD 6 ∧
      t.flags.ac = v.getLsbD 4 ∧ t.flags.p = v.getLsbD 2 ∧ t.flags.cy = v.getLsbD 0 ∧
      KeepsRegsBut [.a] s t ∧ KeepsControl s t ∧ KeepsIo s t ∧ ExecutedPast 1 s t) ∧
    (¬ PopFits s → exec .popPSW s = .fault (.outOfBoundsAccess (popFaultAddr s)))

/-- R194: `XTHL` exchanges `L` with the byte at `SP` and `H` with the byte at `SP + 1`; `SP` keeps its value. -/
def Obligations.XthlSwapsHlWithTheStackTop : Prop :=
  ∀ s : State, s.Inv = true → HasCode .xthl [0xE3] ∧
    (PopFits s → ∃ t, exec .xthl s = .next t ∧
      t.reg .l = s.mem.read s.sp.toNat ∧ t.reg .h = s.mem.read (s.sp.toNat + 1) ∧
      t.mem.read s.sp.toNat = s.reg .l ∧ t.mem.read (s.sp.toNat + 1) = s.reg .h ∧
      KeepsAllBut [.h, .l] [s.sp.toNat, s.sp.toNat + 1] s t ∧ KeepsFlags s t ∧ KeepsSp s t ∧ ExecutedPast 1 s t) ∧
    (¬ PopFits s → exec .xthl s = .fault (.outOfBoundsAccess (popFaultAddr s)))

/-- R195, R199, R206: `SPHL`, `JMP` and `PCHL` move a 16-bit value into `SP` or `PC`, which is not checked, and change
nothing else. -/
def Obligations.SphlJmpPchlMoveAWord : Prop :=
  ∀ (s : State) (w : Word),
    HasCode .sphl [0xF9] ∧ HasCode (.jmp w) [0xC3, loByte w, hiByte w] ∧ HasCode .pchl [0xE9] ∧
    (∃ t, exec .sphl s = .next t ∧ t.sp = s.hl ∧ KeepsAllBut [] [] s t ∧ KeepsFlags s t ∧ ExecutedPast 1 s t) ∧
    (∃ t, exec (.jmp w) s = .next t ∧
      KeepsAllBut [] [] s t ∧ KeepsFlags s t ∧ KeepsSp s t ∧ ExecutedTo w s t) ∧
    (∃ t, exec .pchl s = .next t ∧
      KeepsAllBut [] [] s t ∧ KeepsFlags s t ∧ KeepsSp s t ∧ ExecutedTo s.hl s t)

/-- R200, R198: a conditional jump redirects `PC` when its condition holds and advances when it does not, and changes
nothing else. -/
def Obligations.ConditionalJumpTakesOneOfTwoPaths : Prop :=
  ∀ (code : Cond) (w : Word) (s : State),
    HasCode (Instr.jcc code w) [BitVec.ofNat 8 (192 + 8 * codeOfCond code + 2), loByte w, hiByte w] ∧
    ∃ t, exec (Instr.jcc code w) s = .next t ∧ KeepsAllBut [] [] s t ∧ KeepsFlags s t ∧ KeepsSp s t ∧
      (CondTrue code s.flags → ExecutedTo w s t) ∧ (¬ CondTrue code s.flags → ExecutedPast 3 s t)

/-- R201, R202, R196, R198: `CALL` and a taken `Ccc` push the address of the instruction that follows and jump; a
`Ccc` that is not taken only advances and touches no stack address. -/
def Obligations.CallPushesTheReturnAddress : Prop :=
  ∀ (code : Cond) (w : Word) (s : State), s.Inv = true →
    HasCode (.call w) [0xCD, loByte w, hiByte w] ∧
    HasCode (Instr.ccc code w) [BitVec.ofNat 8 (192 + 8 * codeOfCond code + 4), loByte w, hiByte w] ∧
    (∀ i : Instr, i = .call w ∨ (i = Instr.ccc code w ∧ CondTrue code s.flags) →
      (PushFits s → ∃ t, exec i s = .next t ∧ Pushes (s.pc + 3) s t ∧
        KeepsRegsBut [] s t ∧ KeepsFlags s t ∧ KeepsControl s t ∧ KeepsIo s t ∧ ExecutedTo w s t) ∧
      (¬ PushFits s → exec i s = .fault (.outOfBoundsAccess (pushFaultAddr s)))) ∧
    (¬ CondTrue code s.flags → ∃ t, exec (Instr.ccc code w) s = .next t ∧
      KeepsAllBut [] [] s t ∧ KeepsFlags s t ∧ KeepsSp s t ∧ ExecutedPast 3 s t)

/-- R203, R204, R197, R198: `RET` and a taken `Rcc` pop `PC`; an `Rcc` that is not taken only advances and reads no
stack byte. -/
def Obligations.ReturnPopsTheProgramCounter : Prop :=
  ∀ (code : Cond) (s : State),
    HasCode .ret [0xC9] ∧ HasCode (Instr.rcc code) [BitVec.ofNat 8 (192 + 8 * codeOfCond code)] ∧
    (∀ i : Instr, i = .ret ∨ (i = Instr.rcc code ∧ CondTrue code s.flags) →
      (PopFits s → ∃ t, exec i s = .next t ∧ Pops t.pc s t ∧
        KeepsRegsBut [] s t ∧ KeepsFlags s t ∧ KeepsControl s t ∧ KeepsIo s t ∧
        t.icount = s.icount + 1 ∧ t.result = .ok) ∧
      (¬ PopFits s → exec i s = .fault (.outOfBoundsAccess (popFaultAddr s)))) ∧
    (¬ CondTrue code s.flags → ∃ t, exec (Instr.rcc code) s = .next t ∧
      KeepsAllBut [] [] s t ∧ KeepsFlags s t ∧ KeepsSp s t ∧ ExecutedPast 1 s t)

/-- R205, R196: `RST n` pushes the address of the instruction that follows and jumps to `8 * n`; `INTE` keeps its
value. -/
def Obligations.RestartPushesAndJumpsToEightN : Prop :=
  ∀ (n : Fin 8) (s : State), s.Inv = true →
    HasCode (Instr.rst n) [BitVec.ofNat 8 (192 + 8 * n.val + 7)] ∧
    (PushFits s → ∃ t, exec (Instr.rst n) s = .next t ∧ Pushes (s.pc + 1) s t ∧ t.pc.toNat = 8 * n.val ∧
      KeepsRegsBut [] s t ∧ KeepsFlags s t ∧ KeepsControl s t ∧ KeepsIo s t ∧
      t.icount = s.icount + 1 ∧ t.result = .ok) ∧
    (¬ PushFits s → exec (Instr.rst n) s = .fault (.outOfBoundsAccess (pushFaultAddr s)))

/-- R292 (a), R201, R203: a `CALL` and the `RET` at its target go back to the instruction after the call, with `SP`, the
registers and the flags as before. -/
def Obligations.CallThenReturnGoesBack : Prop :=
  ∀ (s : State) (w : Word), s.Inv = true → PushFits s → ∃ t u, exec (.call w) s = .next t ∧ exec .ret t = .next u ∧
    u.pc = s.pc + 3 ∧ KeepsSp s u ∧ KeepsRegsBut [] s u ∧ KeepsFlags s u ∧ u.icount = s.icount + 2

/-- R292 (b), R190, R192: `PUSH rp` then `POP rp` leaves every register, flag and `SP` as before, `PC` and `ICOUNT` 2
higher, and the pair in the two bytes below the original `SP`; the same of `PUSH PSW` then `POP PSW`. -/
def Obligations.PushThenPopKeepsRegistersFlagsAndSp : Prop :=
  ∀ s : State, s.Inv = true → PushFits s →
    (∀ p : RegPair, ∃ t u, exec (Instr.push p) s = .next t ∧ exec (Instr.pop p) t = .next u ∧
      KeepsRegsBut [] s u ∧ KeepsFlags s u ∧ KeepsSp s u ∧ u.pc = s.pc + 2 ∧ u.icount = s.icount + 2 ∧
      u.mem.read (s.sp.toNat - 1) = s.reg (hiReg p) ∧ u.mem.read (s.sp.toNat - 2) = s.reg (loReg p)) ∧
    (∃ t u, exec .pushPSW s = .next t ∧ exec .popPSW t = .next u ∧
      KeepsRegsBut [] s u ∧ KeepsFlags s u ∧ KeepsSp s u)

/-! ## Input, output, machine control -/

/-- R220, R50: `IN p8` loads `A` with the value the host's table is known to hold for the port, and otherwise with the
free value of this `IN` (log entry 4); after the host sets the port to `v`, it loads `v`. -/
def Obligations.InLoadsAFromThePort : Prop :=
  ∀ (s : State) (port : Byte), HasCode (.inPort port) [0xDB, port] ∧
    (∃ t, exec (.inPort port) s = .next t ∧
      (∀ v, s.inPorts.lookup port.toNat = some v → t.reg .a = v) ∧
      (s.inPorts.lookup port.toNat = none → t.reg .a = Config.freeInput s.inCount port) ∧
      KeepsRegsBut [.a] s t ∧ KeepsFlags s t ∧ KeepsSp s t ∧ KeepsMemBut [] s t ∧ KeepsControl s t ∧
      t.inPorts = s.inPorts ∧ t.outputs = s.outputs ∧ t.cfg = s.cfg ∧ ExecutedPast 2 s t) ∧
    (∀ v : Byte, ∃ t, exec (.inPort port) (s.setInput port v) = .next t ∧ t.reg .a = v)

/-- R221, R51: `OUT p8` emits one event, the port and `A`, after the events before it, and changes nothing else. -/
def Obligations.OutEmitsOneEvent : Prop :=
  ∀ (s : State) (port : Byte), HasCode (.outPort port) [0xD3, port] ∧
    ∃ t, exec (.outPort port) s = .next t ∧ t.outputs = s.outputs ++ [{ port := port, value := s.reg .a }] ∧
      KeepsRegsBut [] s t ∧ KeepsFlags s t ∧ KeepsSp s t ∧ KeepsMemBut [] s t ∧ KeepsControl s t ∧
      t.inPorts = s.inPorts ∧ t.inCount = s.inCount ∧ t.cfg = s.cfg ∧ ExecutedPast 2 s t

/-- R234, R235, R236, R237: `EI`, `DI`, `HLT` and `NOP` write `INTE`, `INTE`, `HALTED` and nothing, and advance. A request
made right after `EI` is taken, one made right after `DI` is dropped, and after `HLT` no step executes anything. -/
def Obligations.EiDiHltNopWriteOnlyTheirBit : Prop :=
  ∀ s : State, HasCode .ei [0xFB] ∧ HasCode .di [0xF3] ∧ HasCode .hlt [0x76] ∧ HasCode .nop [0x00] ∧
    (∃ t, exec .ei s = .next t ∧
      t = { s with inte := true, pc := s.pc + 1, icount := s.icount + 1, result := .ok } ∧
      ∀ vector : Int, 0 ≤ vector → vector ≤ 7 → PushFits t →
        ∃ u, requestInterrupt vector t = .next u ∧ u.result = .taken) ∧
    (∃ t, exec .di s = .next t ∧
      t = { s with inte := false, pc := s.pc + 1, icount := s.icount + 1, result := .ok } ∧
      ∀ vector : Int, 0 ≤ vector → vector ≤ 7 → requestInterrupt vector t = .next { t with result := .dropped }) ∧
    (∃ t, exec .hlt s = .next t ∧
      t = { s with halted := true, pc := s.pc + 1, icount := s.icount + 1, result := .ok } ∧
      ∀ n : Nat, t.afterAll (List.replicate (n + 1) .step) = { t with result := .halted }) ∧
    exec .nop s = .next { s with pc := s.pc + 1, icount := s.icount + 1, result := .ok }

/-- R238, R243, R78: each of the 12 undocumented bytes raises `UnimplementedOpcode` under the policy `fault`, with `PC`
left at the byte; under `alias` it executes as the instruction it aliases, whose immediate bytes are read after the
opcode byte. -/
def Obligations.UndocumentedBytesFollowThePolicy : Prop :=
  ∀ s : State,
    (∀ row ∈ undocumentedRows, HasCode row.1 [row.2] ∧ (s.cfg.undocPolicy = .fault → exec row.1 s = .next
      { s with halted := true, icount := s.icount + 1, result := .unimplementedOpcode s.pc row.2 })) ∧
    (s.cfg.undocPolicy = .aliased →
      (∀ i ∈ [Instr.undoc08, .undoc10, .undoc18, .undoc20, .undoc28, .undoc30, .undoc38],
        exec i s = exec .nop s) ∧
      exec .undocD9 s = exec .ret s ∧
      (∀ w : Word, s.pc.toNat + 2 < s.cfg.memSize →
        w = joinBytes (s.mem.read (s.pc.toNat + 2)) (s.mem.read (s.pc.toNat + 1)) →
        exec .undocCB s = exec (.jmp w) s ∧
        ∀ i ∈ [Instr.undocDD, .undocED, .undocFD], exec i s = exec (.call w) s) ∧
      (∀ i ∈ [Instr.undocCB, .undocDD, .undocED, .undocFD],
        (s.cfg.memSize ≤ s.pc.toNat + 1 → exec i s = .fault (.outOfBoundsAccess ((s.pc.toNat : Int) + 1))) ∧
        (s.pc.toNat + 2 = s.cfg.memSize → exec i s = .fault (.outOfBoundsAccess ((s.pc.toNat : Int) + 2)))))
end

