-- ==== Sys2Proof/Laws/Memory.lean ====
section
/-! SUPPORT. The laws of memory: a read after a write to the same place gives the value written, a write leaves every
other place alone, every write keeps the canonical form, and two canonical memories that read alike are equal data. The
same for the table of known input values. -/

namespace Sys2Proof.Machine

theorem Memory.wfFrom_cons {size lo a : Nat} {v : Byte} {m : Memory} :
    Memory.wfFrom size lo ((a, v) :: m) = true ↔
      lo ≤ a ∧ a < size ∧ v ≠ blankByte ∧ Memory.wfFrom size (a + 1) m = true := by
  simp [Memory.wfFrom, and_assoc]

theorem Memory.wfFrom_mono {size lo lo' : Nat} {m : Memory} (h : Memory.wfFrom size lo m = true) (hl : lo' ≤ lo) :
    Memory.wfFrom size lo' m = true := by
  cases m with
  | nil => rfl
  | cons c m =>
    obtain ⟨a, v⟩ := c
    rw [Memory.wfFrom_cons] at h ⊢
    exact ⟨by omega, h.2⟩

/-- Below the least listed address every byte is blank. -/
theorem Memory.read_below {size lo : Nat} {m : Memory} (h : Memory.wfFrom size lo m = true) {a : Nat} (ha : a < lo) :
    m.read a = blankByte := by
  induction m generalizing lo with
  | nil => rfl
  | cons c m ih =>
    obtain ⟨b, w⟩ := c
    rw [Memory.wfFrom_cons] at h
    have hne : b ≠ a := by omega
    simp [Memory.read, hne, ih h.2.2.2 (by omega : a < b + 1)]

/-- At and above the memory's size every byte is blank. -/
theorem Memory.read_above {size lo : Nat} {m : Memory} (h : Memory.wfFrom size lo m = true) {a : Nat} (ha : size ≤ a) :
    m.read a = blankByte := by
  induction m generalizing lo with
  | nil => rfl
  | cons c m ih =>
    obtain ⟨b, w⟩ := c
    rw [Memory.wfFrom_cons] at h
    have hne : b ≠ a := by omega
    simp [Memory.read, hne, ih h.2.2.2]

theorem Memory.read_write_of_wfFrom {size lo : Nat} {m : Memory} (h : Memory.wfFrom size lo m = true) (a : Nat) (v : Byte)
    (x : Nat) : (m.write a v).read x = if x = a then v else m.read x := by
  induction m generalizing lo with
  | nil =>
    unfold Memory.write
    by_cases hx : x = a
    · subst hx; by_cases hv : v = blankByte <;> simp [hv, Memory.read]
    · by_cases hv : v = blankByte <;> simp [hv, hx, Memory.read, Ne.symm hx]
  | cons c m ih =>
    obtain ⟨b, w⟩ := c
    rw [Memory.wfFrom_cons] at h
    obtain ⟨_, _, _, hm⟩ := h
    unfold Memory.write
    have below : ∀ y, y < b + 1 → Memory.read m y = blankByte := fun y hy => Memory.read_below hm hy
    rcases Nat.lt_trichotomy a b with hab | rfl | hab
    · have := below a (by omega)
      by_cases hv : v = blankByte
      · by_cases hx : x = a
        · subst hx; simp [hab, hv, Memory.read, this, show b ≠ x by omega]
        · simp [hab, hv, hx]
      · by_cases hx : x = a
        · simp [hab, hv, Memory.read, hx]
        · simp [hab, hv, Memory.read, hx, Ne.symm hx]
    · have := below a (by omega)
      by_cases hv : v = blankByte
      · by_cases hx : x = a
        · subst hx; simp [hv, this]
        · simp [hv, hx, Memory.read, Ne.symm hx]
      · by_cases hx : x = a
        · simp [hv, hx, Memory.read]
        · simp [hv, hx, Memory.read, Ne.symm hx]
    · have hlt : ¬ a < b := by omega
      have hne : a ≠ b := by omega
      by_cases hx : b = x
      · subst hx; simp [hlt, hne, Memory.read, Ne.symm hne]
      · simp [hlt, hne, Memory.read, hx, ih hm]

/-- A read after a write gives the value written, and every other byte is as before. -/
theorem Memory.read_write {size : Nat} {m : Memory} (h : Memory.wf size m = true) (a : Nat) (v : Byte) (x : Nat) :
    (m.write a v).read x = if x = a then v else m.read x :=
  Memory.read_write_of_wfFrom h a v x

theorem Memory.read_write_same {size : Nat} {m : Memory} (h : Memory.wf size m = true) (a : Nat) (v : Byte) :
    (m.write a v).read a = v := by
  rw [Memory.read_write h, if_pos rfl]

/-- A write leaves every other address alone, in every list whatever its form. -/
theorem Memory.read_write_ne (m : Memory) {a x : Nat} (v : Byte) (hx : x ≠ a) : (m.write a v).read x = m.read x := by
  induction m with
  | nil =>
    unfold Memory.write
    split_ifs <;> simp [Memory.read, Ne.symm hx]
  | cons c m ih =>
    obtain ⟨b, w⟩ := c
    unfold Memory.write
    split_ifs with h1 h2 h3 h4
    · rfl
    · simp [Memory.read, Ne.symm hx]
    · subst h3; simp [Memory.read, Ne.symm hx]
    · subst h3; simp [Memory.read, Ne.symm hx]
    · simp [Memory.read, ih]

theorem Memory.write_wfFrom {size lo : Nat} {m : Memory} (h : Memory.wfFrom size lo m = true) {a : Nat} (v : Byte)
    (hlo : lo ≤ a) (ha : a < size) : Memory.wfFrom size lo (m.write a v) = true := by
  induction m generalizing lo with
  | nil =>
    unfold Memory.write
    split_ifs with hv
    · rfl
    · exact Memory.wfFrom_cons.2 ⟨hlo, ha, hv, rfl⟩
  | cons c m ih =>
    obtain ⟨b, w⟩ := c
    have h' := Memory.wfFrom_cons.1 h
    obtain ⟨hb, hs, hw, hm⟩ := h'
    unfold Memory.write
    split_ifs with h1 h2 h3 h4
    · exact h
    · exact Memory.wfFrom_cons.2 ⟨hlo, ha, h2, Memory.wfFrom_cons.2 ⟨by omega, hs, hw, hm⟩⟩
    · exact Memory.wfFrom_mono hm (by omega)
    · exact Memory.wfFrom_cons.2 ⟨hlo, ha, h4, h3 ▸ hm⟩
    · exact Memory.wfFrom_cons.2 ⟨hb, hs, hw, ih hm (by omega)⟩

/-- Every write inside memory keeps the canonical form. -/
theorem Memory.write_wf {size : Nat} {m : Memory} (h : Memory.wf size m = true) {a : Nat} (v : Byte) (ha : a < size) :
    Memory.wf size (m.write a v) = true :=
  Memory.write_wfFrom h v (Nat.zero_le a) ha

theorem Memory.wf_nil (size : Nat) : Memory.wf size [] = true := rfl

theorem Memory.ext_of_wfFrom {size lo : Nat} {m m' : Memory} (h : Memory.wfFrom size lo m = true)
    (h' : Memory.wfFrom size lo m' = true) (hr : ∀ a, m.read a = m'.read a) : m = m' := by
  induction m generalizing lo m' with
  | nil =>
    cases m' with
    | nil => rfl
    | cons c m' =>
      obtain ⟨b, w⟩ := c
      have h2 := Memory.wfFrom_cons.1 h'
      exact absurd (by simpa [Memory.read] using (hr b).symm) h2.2.2.1
  | cons c m ih =>
    obtain ⟨b, w⟩ := c
    have h1 := Memory.wfFrom_cons.1 h
    cases m' with
    | nil => exact absurd (by simpa [Memory.read] using hr b) h1.2.2.1
    | cons c' m' =>
      obtain ⟨b', w'⟩ := c'
      have h2 := Memory.wfFrom_cons.1 h'
      have hb : b = b' := by
        rcases Nat.lt_trichotomy b b' with hlt | heq | hlt
        · have hz := Memory.read_below h2.2.2.2 (a := b) (by omega)
          have := hr b
          simp [Memory.read, show b' ≠ b by omega, hz] at this
          exact absurd this h1.2.2.1
        · exact heq
        · have hz := Memory.read_below h1.2.2.2 (a := b') (by omega)
          have := hr b'
          simp [Memory.read, show b ≠ b' by omega, hz] at this
          exact absurd this.symm h2.2.2.1
      subst hb
      have hw : w = w' := by simpa [Memory.read] using hr b
      subst hw
      have ht : m = m' := ih h1.2.2.2 h2.2.2.2 fun a => by
        by_cases ha : b = a
        · subst ha
          rw [Memory.read_below h1.2.2.2 (by omega), Memory.read_below h2.2.2.2 (by omega)]
        · simpa [Memory.read, ha] using hr a
      rw [ht]

/-- Two canonical memories that read alike everywhere are the same data. -/
theorem Memory.ext_of_wf {size : Nat} {m m' : Memory} (h : Memory.wf size m = true) (h' : Memory.wf size m' = true)
    (hr : ∀ a, m.read a = m'.read a) : m = m' :=
  Memory.ext_of_wfFrom h h' hr

/-! ### The table of known input values -/

theorem PortTable.wfFrom_cons {lo p : Nat} {v : Byte} {t : PortTable} :
    PortTable.wfFrom lo ((p, v) :: t) = true ↔ lo ≤ p ∧ p < 256 ∧ PortTable.wfFrom (p + 1) t = true := by
  simp [PortTable.wfFrom, and_assoc]

theorem PortTable.wfFrom_mono {lo lo' : Nat} {t : PortTable} (h : PortTable.wfFrom lo t = true) (hl : lo' ≤ lo) :
    PortTable.wfFrom lo' t = true := by
  cases t with
  | nil => rfl
  | cons c t =>
    obtain ⟨q, w⟩ := c
    rw [PortTable.wfFrom_cons] at h ⊢
    exact ⟨by omega, h.2⟩

theorem PortTable.set_wfFrom {lo : Nat} {t : PortTable} (h : PortTable.wfFrom lo t = true) {p : Nat} (v : Byte)
    (hlo : lo ≤ p) (hp : p < 256) : PortTable.wfFrom lo (t.set p v) = true := by
  induction t generalizing lo with
  | nil => exact PortTable.wfFrom_cons.2 ⟨hlo, hp, rfl⟩
  | cons c t ih =>
    obtain ⟨q, w⟩ := c
    obtain ⟨hq, hs, ht⟩ := PortTable.wfFrom_cons.1 h
    unfold PortTable.set
    split_ifs with h1 h2
    · exact PortTable.wfFrom_cons.2 ⟨hlo, hp, PortTable.wfFrom_cons.2 ⟨by omega, hs, ht⟩⟩
    · exact PortTable.wfFrom_cons.2 ⟨hlo, hp, h2 ▸ ht⟩
    · exact PortTable.wfFrom_cons.2 ⟨hq, hs, ih ht (by omega)⟩

/-- Setting an input value keeps the canonical form. -/
theorem PortTable.set_wf {t : PortTable} (h : PortTable.wf t = true) {p : Nat} (v : Byte) (hp : p < 256) :
    PortTable.wf (t.set p v) = true :=
  PortTable.set_wfFrom h v (Nat.zero_le p) hp

@[simp] theorem PortTable.lookup_set_same (t : PortTable) (p : Nat) (v : Byte) : (t.set p v).lookup p = some v := by
  induction t with
  | nil => simp [PortTable.set, PortTable.lookup]
  | cons c t ih =>
    obtain ⟨q, w⟩ := c
    unfold PortTable.set
    split_ifs with h1 h2
    · simp [PortTable.lookup]
    · simp [PortTable.lookup]
    · simp [PortTable.lookup, Ne.symm h2, ih]

theorem PortTable.lookup_set_ne (t : PortTable) {p q : Nat} (v : Byte) (h : q ≠ p) :
    (t.set p v).lookup q = t.lookup q := by
  induction t with
  | nil => simp [PortTable.set, PortTable.lookup, Ne.symm h]
  | cons c t ih =>
    obtain ⟨r, w⟩ := c
    unfold PortTable.set
    split_ifs with h1 h2
    · simp [PortTable.lookup, Ne.symm h]
    · subst h2; simp [PortTable.lookup, Ne.symm h]
    · simp [PortTable.lookup, ih]

end Sys2Proof.Machine
end

