-- ==== Sys2Proof/Laws/State.lean ====
section
/-! SUPPORT. One lemma per field per update of State, true by rfl, so that no later proof unfolds an update; and what a
register or a pair reads as after a register, a pair, the flags or the program counter is written. -/

namespace Sys2Proof.Machine

variable (s : State)

/-! ### `State.setReg` -/

@[simp] theorem State.setReg_regs (i : Reg8) (v : Byte) : (s.setReg i v).regs = s.regs.set i v := rfl
@[simp] theorem State.setReg_flags (i : Reg8) (v : Byte) : (s.setReg i v).flags = s.flags := rfl
@[simp] theorem State.setReg_sp (i : Reg8) (v : Byte) : (s.setReg i v).sp = s.sp := rfl
@[simp] theorem State.setReg_pc (i : Reg8) (v : Byte) : (s.setReg i v).pc = s.pc := rfl
@[simp] theorem State.setReg_inte (i : Reg8) (v : Byte) : (s.setReg i v).inte = s.inte := rfl
@[simp] theorem State.setReg_halted (i : Reg8) (v : Byte) : (s.setReg i v).halted = s.halted := rfl
@[simp] theorem State.setReg_icount (i : Reg8) (v : Byte) : (s.setReg i v).icount = s.icount := rfl
@[simp] theorem State.setReg_mem (i : Reg8) (v : Byte) : (s.setReg i v).mem = s.mem := rfl
@[simp] theorem State.setReg_result (i : Reg8) (v : Byte) : (s.setReg i v).result = s.result := rfl
@[simp] theorem State.setReg_outputs (i : Reg8) (v : Byte) : (s.setReg i v).outputs = s.outputs := rfl
@[simp] theorem State.setReg_inPorts (i : Reg8) (v : Byte) : (s.setReg i v).inPorts = s.inPorts := rfl
@[simp] theorem State.setReg_inCount (i : Reg8) (v : Byte) : (s.setReg i v).inCount = s.inCount := rfl
@[simp] theorem State.setReg_cfg (i : Reg8) (v : Byte) : (s.setReg i v).cfg = s.cfg := rfl

/-! ### `State.setPair` -/

@[simp] theorem State.setPair_regs (p : RegPair) (v : Word) : (s.setPair p v).regs = (s.regs.set (hiReg p) (hiByte v)).set (loReg p) (loByte v) := rfl
@[simp] theorem State.setPair_flags (p : RegPair) (v : Word) : (s.setPair p v).flags = s.flags := rfl
@[simp] theorem State.setPair_sp (p : RegPair) (v : Word) : (s.setPair p v).sp = s.sp := rfl
@[simp] theorem State.setPair_pc (p : RegPair) (v : Word) : (s.setPair p v).pc = s.pc := rfl
@[simp] theorem State.setPair_inte (p : RegPair) (v : Word) : (s.setPair p v).inte = s.inte := rfl
@[simp] theorem State.setPair_halted (p : RegPair) (v : Word) : (s.setPair p v).halted = s.halted := rfl
@[simp] theorem State.setPair_icount (p : RegPair) (v : Word) : (s.setPair p v).icount = s.icount := rfl
@[simp] theorem State.setPair_mem (p : RegPair) (v : Word) : (s.setPair p v).mem = s.mem := rfl
@[simp] theorem State.setPair_result (p : RegPair) (v : Word) : (s.setPair p v).result = s.result := rfl
@[simp] theorem State.setPair_outputs (p : RegPair) (v : Word) : (s.setPair p v).outputs = s.outputs := rfl
@[simp] theorem State.setPair_inPorts (p : RegPair) (v : Word) : (s.setPair p v).inPorts = s.inPorts := rfl
@[simp] theorem State.setPair_inCount (p : RegPair) (v : Word) : (s.setPair p v).inCount = s.inCount := rfl
@[simp] theorem State.setPair_cfg (p : RegPair) (v : Word) : (s.setPair p v).cfg = s.cfg := rfl

/-! ### `State.setSp` -/

@[simp] theorem State.setSp_regs (v : Word) : (s.setSp v).regs = s.regs := rfl
@[simp] theorem State.setSp_flags (v : Word) : (s.setSp v).flags = s.flags := rfl
@[simp] theorem State.setSp_sp (v : Word) : (s.setSp v).sp = v := rfl
@[simp] theorem State.setSp_pc (v : Word) : (s.setSp v).pc = s.pc := rfl
@[simp] theorem State.setSp_inte (v : Word) : (s.setSp v).inte = s.inte := rfl
@[simp] theorem State.setSp_halted (v : Word) : (s.setSp v).halted = s.halted := rfl
@[simp] theorem State.setSp_icount (v : Word) : (s.setSp v).icount = s.icount := rfl
@[simp] theorem State.setSp_mem (v : Word) : (s.setSp v).mem = s.mem := rfl
@[simp] theorem State.setSp_result (v : Word) : (s.setSp v).result = s.result := rfl
@[simp] theorem State.setSp_outputs (v : Word) : (s.setSp v).outputs = s.outputs := rfl
@[simp] theorem State.setSp_inPorts (v : Word) : (s.setSp v).inPorts = s.inPorts := rfl
@[simp] theorem State.setSp_inCount (v : Word) : (s.setSp v).inCount = s.inCount := rfl
@[simp] theorem State.setSp_cfg (v : Word) : (s.setSp v).cfg = s.cfg := rfl

/-! ### `State.setFlags` -/

@[simp] theorem State.setFlags_regs (f : Flags) : (s.setFlags f).regs = s.regs := rfl
@[simp] theorem State.setFlags_flags (f : Flags) : (s.setFlags f).flags = f := rfl
@[simp] theorem State.setFlags_sp (f : Flags) : (s.setFlags f).sp = s.sp := rfl
@[simp] theorem State.setFlags_pc (f : Flags) : (s.setFlags f).pc = s.pc := rfl
@[simp] theorem State.setFlags_inte (f : Flags) : (s.setFlags f).inte = s.inte := rfl
@[simp] theorem State.setFlags_halted (f : Flags) : (s.setFlags f).halted = s.halted := rfl
@[simp] theorem State.setFlags_icount (f : Flags) : (s.setFlags f).icount = s.icount := rfl
@[simp] theorem State.setFlags_mem (f : Flags) : (s.setFlags f).mem = s.mem := rfl
@[simp] theorem State.setFlags_result (f : Flags) : (s.setFlags f).result = s.result := rfl
@[simp] theorem State.setFlags_outputs (f : Flags) : (s.setFlags f).outputs = s.outputs := rfl
@[simp] theorem State.setFlags_inPorts (f : Flags) : (s.setFlags f).inPorts = s.inPorts := rfl
@[simp] theorem State.setFlags_inCount (f : Flags) : (s.setFlags f).inCount = s.inCount := rfl
@[simp] theorem State.setFlags_cfg (f : Flags) : (s.setFlags f).cfg = s.cfg := rfl

/-! ### `State.retireTo` -/

@[simp] theorem State.retireTo_regs (w : Word) : (s.retireTo w).regs = s.regs := rfl
@[simp] theorem State.retireTo_flags (w : Word) : (s.retireTo w).flags = s.flags := rfl
@[simp] theorem State.retireTo_sp (w : Word) : (s.retireTo w).sp = s.sp := rfl
@[simp] theorem State.retireTo_pc (w : Word) : (s.retireTo w).pc = w := rfl
@[simp] theorem State.retireTo_inte (w : Word) : (s.retireTo w).inte = s.inte := rfl
@[simp] theorem State.retireTo_halted (w : Word) : (s.retireTo w).halted = s.halted := rfl
@[simp] theorem State.retireTo_icount (w : Word) : (s.retireTo w).icount = s.icount + 1 := rfl
@[simp] theorem State.retireTo_mem (w : Word) : (s.retireTo w).mem = s.mem := rfl
@[simp] theorem State.retireTo_result (w : Word) : (s.retireTo w).result = .ok := rfl
@[simp] theorem State.retireTo_outputs (w : Word) : (s.retireTo w).outputs = s.outputs := rfl
@[simp] theorem State.retireTo_inPorts (w : Word) : (s.retireTo w).inPorts = s.inPorts := rfl
@[simp] theorem State.retireTo_inCount (w : Word) : (s.retireTo w).inCount = s.inCount := rfl
@[simp] theorem State.retireTo_cfg (w : Word) : (s.retireTo w).cfg = s.cfg := rfl

/-! ### `State.retire` -/

@[simp] theorem State.retire_regs (n : Nat) : (s.retire n).regs = s.regs := rfl
@[simp] theorem State.retire_flags (n : Nat) : (s.retire n).flags = s.flags := rfl
@[simp] theorem State.retire_sp (n : Nat) : (s.retire n).sp = s.sp := rfl
@[simp] theorem State.retire_pc (n : Nat) : (s.retire n).pc = s.pc + BitVec.ofNat 16 n := rfl
@[simp] theorem State.retire_inte (n : Nat) : (s.retire n).inte = s.inte := rfl
@[simp] theorem State.retire_halted (n : Nat) : (s.retire n).halted = s.halted := rfl
@[simp] theorem State.retire_icount (n : Nat) : (s.retire n).icount = s.icount + 1 := rfl
@[simp] theorem State.retire_mem (n : Nat) : (s.retire n).mem = s.mem := rfl
@[simp] theorem State.retire_result (n : Nat) : (s.retire n).result = .ok := rfl
@[simp] theorem State.retire_outputs (n : Nat) : (s.retire n).outputs = s.outputs := rfl
@[simp] theorem State.retire_inPorts (n : Nat) : (s.retire n).inPorts = s.inPorts := rfl
@[simp] theorem State.retire_inCount (n : Nat) : (s.retire n).inCount = s.inCount := rfl
@[simp] theorem State.retire_cfg (n : Nat) : (s.retire n).cfg = s.cfg := rfl

/-! ### `State.raiseUnimplemented` -/

@[simp] theorem State.raiseUnimplemented_regs (op : Byte) : (s.raiseUnimplemented op).regs = s.regs := rfl
@[simp] theorem State.raiseUnimplemented_flags (op : Byte) : (s.raiseUnimplemented op).flags = s.flags := rfl
@[simp] theorem State.raiseUnimplemented_sp (op : Byte) : (s.raiseUnimplemented op).sp = s.sp := rfl
@[simp] theorem State.raiseUnimplemented_pc (op : Byte) : (s.raiseUnimplemented op).pc = s.pc := rfl
@[simp] theorem State.raiseUnimplemented_inte (op : Byte) : (s.raiseUnimplemented op).inte = s.inte := rfl
@[simp] theorem State.raiseUnimplemented_halted (op : Byte) : (s.raiseUnimplemented op).halted = true := rfl
@[simp] theorem State.raiseUnimplemented_icount (op : Byte) : (s.raiseUnimplemented op).icount = s.icount + 1 := rfl
@[simp] theorem State.raiseUnimplemented_mem (op : Byte) : (s.raiseUnimplemented op).mem = s.mem := rfl
@[simp] theorem State.raiseUnimplemented_result (op : Byte) : (s.raiseUnimplemented op).result = .unimplementedOpcode s.pc op := rfl
@[simp] theorem State.raiseUnimplemented_outputs (op : Byte) : (s.raiseUnimplemented op).outputs = s.outputs := rfl
@[simp] theorem State.raiseUnimplemented_inPorts (op : Byte) : (s.raiseUnimplemented op).inPorts = s.inPorts := rfl
@[simp] theorem State.raiseUnimplemented_inCount (op : Byte) : (s.raiseUnimplemented op).inCount = s.inCount := rfl
@[simp] theorem State.raiseUnimplemented_cfg (op : Byte) : (s.raiseUnimplemented op).cfg = s.cfg := rfl

/-! ### `State.ioWrite` -/

@[simp] theorem State.ioWrite_regs (q v : Byte) : (s.ioWrite q v).regs = s.regs := rfl
@[simp] theorem State.ioWrite_flags (q v : Byte) : (s.ioWrite q v).flags = s.flags := rfl
@[simp] theorem State.ioWrite_sp (q v : Byte) : (s.ioWrite q v).sp = s.sp := rfl
@[simp] theorem State.ioWrite_pc (q v : Byte) : (s.ioWrite q v).pc = s.pc := rfl
@[simp] theorem State.ioWrite_inte (q v : Byte) : (s.ioWrite q v).inte = s.inte := rfl
@[simp] theorem State.ioWrite_halted (q v : Byte) : (s.ioWrite q v).halted = s.halted := rfl
@[simp] theorem State.ioWrite_icount (q v : Byte) : (s.ioWrite q v).icount = s.icount := rfl
@[simp] theorem State.ioWrite_mem (q v : Byte) : (s.ioWrite q v).mem = s.mem := rfl
@[simp] theorem State.ioWrite_result (q v : Byte) : (s.ioWrite q v).result = s.result := rfl
@[simp] theorem State.ioWrite_outputs (q v : Byte) : (s.ioWrite q v).outputs = s.outputs ++ [{ port := q, value := v }] := rfl
@[simp] theorem State.ioWrite_inPorts (q v : Byte) : (s.ioWrite q v).inPorts = s.inPorts := rfl
@[simp] theorem State.ioWrite_inCount (q v : Byte) : (s.ioWrite q v).inCount = s.inCount := rfl
@[simp] theorem State.ioWrite_cfg (q v : Byte) : (s.ioWrite q v).cfg = s.cfg := rfl

/-! ### `State.setInput` -/

@[simp] theorem State.setInput_regs (q v : Byte) : (s.setInput q v).regs = s.regs := rfl
@[simp] theorem State.setInput_flags (q v : Byte) : (s.setInput q v).flags = s.flags := rfl
@[simp] theorem State.setInput_sp (q v : Byte) : (s.setInput q v).sp = s.sp := rfl
@[simp] theorem State.setInput_pc (q v : Byte) : (s.setInput q v).pc = s.pc := rfl
@[simp] theorem State.setInput_inte (q v : Byte) : (s.setInput q v).inte = s.inte := rfl
@[simp] theorem State.setInput_halted (q v : Byte) : (s.setInput q v).halted = s.halted := rfl
@[simp] theorem State.setInput_icount (q v : Byte) : (s.setInput q v).icount = s.icount := rfl
@[simp] theorem State.setInput_mem (q v : Byte) : (s.setInput q v).mem = s.mem := rfl
@[simp] theorem State.setInput_result (q v : Byte) : (s.setInput q v).result = s.result := rfl
@[simp] theorem State.setInput_outputs (q v : Byte) : (s.setInput q v).outputs = s.outputs := rfl
@[simp] theorem State.setInput_inPorts (q v : Byte) : (s.setInput q v).inPorts = s.inPorts.set q.toNat v := rfl
@[simp] theorem State.setInput_inCount (q v : Byte) : (s.setInput q v).inCount = s.inCount := rfl
@[simp] theorem State.setInput_cfg (q v : Byte) : (s.setInput q v).cfg = s.cfg := rfl

/-! ### `State.hostReset` -/

@[simp] theorem State.hostReset_regs (w u : Word) : (s.hostReset w u).regs = State.reset.regs := rfl
@[simp] theorem State.hostReset_flags (w u : Word) : (s.hostReset w u).flags = State.reset.flags := rfl
@[simp] theorem State.hostReset_sp (w u : Word) : (s.hostReset w u).sp = u := rfl
@[simp] theorem State.hostReset_pc (w u : Word) : (s.hostReset w u).pc = w := rfl
@[simp] theorem State.hostReset_inte (w u : Word) : (s.hostReset w u).inte = false := rfl
@[simp] theorem State.hostReset_halted (w u : Word) : (s.hostReset w u).halted = false := rfl
@[simp] theorem State.hostReset_icount (w u : Word) : (s.hostReset w u).icount = 0 := rfl
@[simp] theorem State.hostReset_mem (w u : Word) : (s.hostReset w u).mem = s.mem := rfl
@[simp] theorem State.hostReset_result (w u : Word) : (s.hostReset w u).result = .idle := rfl
@[simp] theorem State.hostReset_outputs (w u : Word) : (s.hostReset w u).outputs = s.outputs := rfl
@[simp] theorem State.hostReset_inPorts (w u : Word) : (s.hostReset w u).inPorts = s.inPorts := rfl
@[simp] theorem State.hostReset_inCount (w u : Word) : (s.hostReset w u).inCount = s.inCount := rfl
@[simp] theorem State.hostReset_cfg (w u : Word) : (s.hostReset w u).cfg = s.cfg := rfl

/-! ### `State.setPair16` -/

@[simp] theorem State.setPair16_flags (q : Pair16) (v : Word) : (s.setPair16 q v).flags = s.flags := by cases q <;> rfl
@[simp] theorem State.setPair16_pc (q : Pair16) (v : Word) : (s.setPair16 q v).pc = s.pc := by cases q <;> rfl
@[simp] theorem State.setPair16_inte (q : Pair16) (v : Word) : (s.setPair16 q v).inte = s.inte := by cases q <;> rfl
@[simp] theorem State.setPair16_halted (q : Pair16) (v : Word) : (s.setPair16 q v).halted = s.halted := by cases q <;> rfl
@[simp] theorem State.setPair16_icount (q : Pair16) (v : Word) : (s.setPair16 q v).icount = s.icount := by cases q <;> rfl
@[simp] theorem State.setPair16_mem (q : Pair16) (v : Word) : (s.setPair16 q v).mem = s.mem := by cases q <;> rfl
@[simp] theorem State.setPair16_result (q : Pair16) (v : Word) : (s.setPair16 q v).result = s.result := by cases q <;> rfl
@[simp] theorem State.setPair16_outputs (q : Pair16) (v : Word) : (s.setPair16 q v).outputs = s.outputs := by cases q <;> rfl
@[simp] theorem State.setPair16_inPorts (q : Pair16) (v : Word) : (s.setPair16 q v).inPorts = s.inPorts := by cases q <;> rfl
@[simp] theorem State.setPair16_inCount (q : Pair16) (v : Word) : (s.setPair16 q v).inCount = s.inCount := by cases q <;> rfl
@[simp] theorem State.setPair16_cfg (q : Pair16) (v : Word) : (s.setPair16 q v).cfg = s.cfg := by cases q <;> rfl

/-! ### Reading registers after an update -/

@[simp] theorem Regs.get_set_same (r : Regs) (i : Reg8) (v : Byte) : (r.set i v).get i = v := by cases i <;> rfl

theorem Regs.get_set_ne (r : Regs) {i j : Reg8} (v : Byte) (h : j ≠ i) : (r.set i v).get j = r.get j := by
  cases i <;> cases j <;> first | rfl | exact absurd rfl h

@[simp] theorem State.reg_setReg_same (i : Reg8) (v : Byte) : (s.setReg i v).reg i = v := Regs.get_set_same ..

theorem State.reg_setReg_ne {i j : Reg8} (v : Byte) (h : j ≠ i) : (s.setReg i v).reg j = s.reg j :=
  Regs.get_set_ne _ _ h

theorem State.reg_setReg (i j : Reg8) (v : Byte) : (s.setReg i v).reg j = if j = i then v else s.reg j := by
  split
  · subst_vars; exact s.reg_setReg_same ..
  · exact s.reg_setReg_ne _ ‹_›

@[simp] theorem State.reg_setPair_hi (p : RegPair) (v : Word) : (s.setPair p v).reg (hiReg p) = hiByte v := by
  cases p <;> rfl

@[simp] theorem State.reg_setPair_lo (p : RegPair) (v : Word) : (s.setPair p v).reg (loReg p) = loByte v := by
  cases p <;> rfl

theorem State.reg_setPair_ne {p : RegPair} {j : Reg8} (v : Word) (hh : j ≠ hiReg p) (hl : j ≠ loReg p) :
    (s.setPair p v).reg j = s.reg j := by
  cases p <;> cases j <;> first | rfl | exact absurd rfl hh | exact absurd rfl hl

@[simp] theorem State.reg_setSp (v : Word) (i : Reg8) : (s.setSp v).reg i = s.reg i := rfl
@[simp] theorem State.pair_setSp (v : Word) (p : RegPair) : (s.setSp v).pair p = s.pair p := rfl
@[simp] theorem State.hl_setSp (v : Word) : (s.setSp v).hl = s.hl := rfl
@[simp] theorem State.reg_setFlags (f : Flags) (i : Reg8) : (s.setFlags f).reg i = s.reg i := rfl
@[simp] theorem State.pair_setFlags (f : Flags) (p : RegPair) : (s.setFlags f).pair p = s.pair p := rfl
@[simp] theorem State.hl_setFlags (f : Flags) : (s.setFlags f).hl = s.hl := rfl
@[simp] theorem State.reg_retireTo (w : Word) (i : Reg8) : (s.retireTo w).reg i = s.reg i := rfl
@[simp] theorem State.pair_retireTo (w : Word) (p : RegPair) : (s.retireTo w).pair p = s.pair p := rfl
@[simp] theorem State.hl_retireTo (w : Word) : (s.retireTo w).hl = s.hl := rfl
@[simp] theorem State.reg_retire (n : Nat) (i : Reg8) : (s.retire n).reg i = s.reg i := rfl
@[simp] theorem State.pair_retire (n : Nat) (p : RegPair) : (s.retire n).pair p = s.pair p := rfl
@[simp] theorem State.hl_retire (n : Nat) : (s.retire n).hl = s.hl := rfl
@[simp] theorem State.reg_raiseUnimplemented (op : Byte) (i : Reg8) : (s.raiseUnimplemented op).reg i = s.reg i := rfl
@[simp] theorem State.pair_raiseUnimplemented (op : Byte) (p : RegPair) : (s.raiseUnimplemented op).pair p = s.pair p := rfl
@[simp] theorem State.hl_raiseUnimplemented (op : Byte) : (s.raiseUnimplemented op).hl = s.hl := rfl
@[simp] theorem State.reg_ioWrite (q v : Byte) (i : Reg8) : (s.ioWrite q v).reg i = s.reg i := rfl
@[simp] theorem State.pair_ioWrite (q v : Byte) (p : RegPair) : (s.ioWrite q v).pair p = s.pair p := rfl
@[simp] theorem State.hl_ioWrite (q v : Byte) : (s.ioWrite q v).hl = s.hl := rfl
@[simp] theorem State.reg_setInput (q v : Byte) (i : Reg8) : (s.setInput q v).reg i = s.reg i := rfl
@[simp] theorem State.pair_setInput (q v : Byte) (p : RegPair) : (s.setInput q v).pair p = s.pair p := rfl
@[simp] theorem State.hl_setInput (q v : Byte) : (s.setInput q v).hl = s.hl := rfl

theorem State.hl_eq : s.hl = joinBytes (s.reg .h) (s.reg .l) := rfl

end Sys2Proof.Machine
end

