-- ==== Sys2Proof/Laws/Ops.lean ====
section
/-! SUPPORT. For each shared operation, everything it can do: when it succeeds and with what state, and with which
address it faults. Provers cite these instead of unfolding the operations. -/

namespace Sys2Proof.Machine

/-! ### The bounds check -/

theorem checkAddr_inside {size : Nat} {a : Int} (h0 : 0 ≤ a) (h1 : a < size) : checkAddr size a = .ok a.toNat := by
  simp [checkAddr, h0, h1]

theorem checkAddr_outside {size : Nat} {a : Int} (h : a < 0 ∨ (size : Int) ≤ a) :
    checkAddr size a = .error (.outOfBoundsAccess a) := by
  have : ¬ (0 ≤ a ∧ a < size) := by omega
  simp [checkAddr, this]

/-! ### Single bytes -/

theorem State.memRead_inside (s : State) {a : Int} (h0 : 0 ≤ a) (h1 : a < s.cfg.memSize) :
    s.memRead a = .ok (s.mem.read a.toNat) := by
  simp [State.memRead, checkAddr_inside h0 h1]

theorem State.memRead_outside (s : State) {a : Int} (h : a < 0 ∨ (s.cfg.memSize : Int) ≤ a) :
    s.memRead a = .error (.outOfBoundsAccess a) := by
  simp [State.memRead, checkAddr_outside h]

theorem State.memRead_nat (s : State) {n : Nat} (h : n < s.cfg.memSize) : s.memRead n = .ok (s.mem.read n) := by
  rw [s.memRead_inside (by omega) (by omega)]; rfl

theorem State.memRead_nat_outside (s : State) {n : Nat} (h : s.cfg.memSize ≤ n) :
    s.memRead n = .error (.outOfBoundsAccess n) :=
  s.memRead_outside (Or.inr (by omega))

theorem State.memWrite_inside (s : State) {a : Int} (v : Byte) (h0 : 0 ≤ a) (h1 : a < s.cfg.memSize) :
    s.memWrite a v = .ok { s with mem := s.mem.write a.toNat v } := by
  simp [State.memWrite, checkAddr_inside h0 h1]

theorem State.memWrite_outside (s : State) {a : Int} (v : Byte) (h : a < 0 ∨ (s.cfg.memSize : Int) ≤ a) :
    s.memWrite a v = .error (.outOfBoundsAccess a) := by
  simp [State.memWrite, checkAddr_outside h]

theorem State.memWrite_nat (s : State) {n : Nat} (v : Byte) (h : n < s.cfg.memSize) :
    s.memWrite n v = .ok { s with mem := s.mem.write n v } := by
  rw [s.memWrite_inside v (by omega) (by omega)]; rfl

theorem State.memWrite_nat_outside (s : State) {n : Nat} (v : Byte) (h : s.cfg.memSize ≤ n) :
    s.memWrite n v = .error (.outOfBoundsAccess n) :=
  s.memWrite_outside v (Or.inr (by omega))

/-- A successful write: the address was inside memory and one byte changed. -/
theorem State.memWrite_ok {s t : State} {a : Int} {v : Byte} (h : s.memWrite a v = .ok t) :
    0 ≤ a ∧ a < s.cfg.memSize ∧ t = { s with mem := s.mem.write a.toNat v } := by
  by_cases hin : 0 ≤ a ∧ a < s.cfg.memSize
  · rw [s.memWrite_inside v hin.1 hin.2] at h
    exact ⟨hin.1, hin.2, (Except.ok.inj h).symm⟩
  · rw [s.memWrite_outside v (by omega)] at h; cases h

/-! ### Two bytes -/

theorem State.memRead16_nat (s : State) {n : Nat} (h : n + 1 < s.cfg.memSize) :
    s.memRead16 n = .ok (joinBytes (s.mem.read (n + 1)) (s.mem.read n)) := by
  have h1 : s.memRead ((n : Int) + 1) = .ok (s.mem.read (n + 1)) := by
    rw [s.memRead_inside (by omega) (by omega)]; rfl
  simp only [State.memRead16, s.memRead_nat (by omega : n < s.cfg.memSize), h1]

theorem State.memRead16_low_outside (s : State) {n : Nat} (h : s.cfg.memSize ≤ n) :
    s.memRead16 n = .error (.outOfBoundsAccess n) := by
  simp only [State.memRead16, s.memRead_nat_outside h]

theorem State.memRead16_high_outside (s : State) {n : Nat} (h : n + 1 = s.cfg.memSize) :
    s.memRead16 n = .error (.outOfBoundsAccess (n + 1)) := by
  simp only [State.memRead16, s.memRead_nat (by omega : n < s.cfg.memSize),
    s.memRead_outside (Or.inr (by omega) : (n : Int) + 1 < 0 ∨ (s.cfg.memSize : Int) ≤ n + 1)]

/-- A successful 16-bit read: both addresses were inside memory. -/
theorem State.memRead16_ok {s : State} {n : Nat} {v : Word} (h : s.memRead16 n = .ok v) :
    n + 1 < s.cfg.memSize ∧ v = joinBytes (s.mem.read (n + 1)) (s.mem.read n) := by
  by_cases h1 : n + 1 < s.cfg.memSize
  · rw [s.memRead16_nat h1] at h; exact ⟨h1, (Except.ok.inj h).symm⟩
  · by_cases h2 : n + 1 = s.cfg.memSize
    · rw [s.memRead16_high_outside h2] at h; cases h
    · rw [s.memRead16_low_outside (by omega)] at h; cases h

theorem State.memWrite16_nat (s : State) {n : Nat} (v : Word) (h : n + 1 < s.cfg.memSize) :
    s.memWrite16 n v = .ok { s with mem := (s.mem.write n (loByte v)).write (n + 1) (hiByte v) } := by
  simp only [State.memWrite16, s.memWrite_nat (loByte v) (by omega : n < s.cfg.memSize)]
  rw [State.memWrite_inside _ _ (by omega) (by simpa using (by omega : (n : Int) + 1 < s.cfg.memSize))]
  rfl

theorem State.memWrite16_low_outside (s : State) {n : Nat} (v : Word) (h : s.cfg.memSize ≤ n) :
    s.memWrite16 n v = .error (.outOfBoundsAccess n) := by
  simp only [State.memWrite16, s.memWrite_nat_outside _ h]

theorem State.memWrite16_high_outside (s : State) {n : Nat} (v : Word) (h : n + 1 = s.cfg.memSize) :
    s.memWrite16 n v = .error (.outOfBoundsAccess (n + 1)) := by
  simp only [State.memWrite16, s.memWrite_nat (loByte v) (by omega : n < s.cfg.memSize)]
  exact State.memWrite_outside _ _ (Or.inr (by simpa using (by omega : (s.cfg.memSize : Int) ≤ n + 1)))

/-- A successful 16-bit write: both addresses were inside memory and two bytes changed. -/
theorem State.memWrite16_ok {s t : State} {n : Nat} {v : Word} (h : s.memWrite16 n v = .ok t) :
    n + 1 < s.cfg.memSize ∧ t = { s with mem := (s.mem.write n (loByte v)).write (n + 1) (hiByte v) } := by
  by_cases h1 : n + 1 < s.cfg.memSize
  · rw [s.memWrite16_nat v h1] at h; exact ⟨h1, (Except.ok.inj h).symm⟩
  · by_cases h2 : n + 1 = s.cfg.memSize
    · rw [s.memWrite16_high_outside v h2] at h; cases h
    · rw [s.memWrite16_low_outside v (by omega)] at h; cases h

/-! ### The stack -/

/-- A push that fits: `SP` is at least 2 and `SP - 1` is inside memory. -/
theorem State.push16_fits (s : State) (v : Word) (h2 : 2 ≤ s.sp.toNat) (hs : s.sp.toNat ≤ s.cfg.memSize) :
    s.push16 v = .ok { s with
      mem := (s.mem.write (s.sp.toNat - 1) (hiByte v)).write (s.sp.toNat - 2) (loByte v), sp := s.sp - 2 } := by
  have e1 : ((s.sp.toNat : Int) - 1).toNat = s.sp.toNat - 1 := by omega
  have e2 : ((s.sp.toNat : Int) - 2).toNat = s.sp.toNat - 2 := by omega
  simp only [State.push16, s.memWrite_inside (hiByte v) (by omega : 0 ≤ (s.sp.toNat : Int) - 1) (by omega), e1]
  rw [State.memWrite_inside _ _ (by omega) (by simpa using (by omega : (s.sp.toNat : Int) - 2 < s.cfg.memSize))]
  simp only [e2]
  rfl

theorem State.push16_high_outside (s : State) (v : Word) (h : s.sp.toNat = 0 ∨ s.cfg.memSize < s.sp.toNat) :
    s.push16 v = .error (.outOfBoundsAccess ((s.sp.toNat : Int) - 1)) := by
  simp only [State.push16, s.memWrite_outside (hiByte v)
    (by omega : (s.sp.toNat : Int) - 1 < 0 ∨ (s.cfg.memSize : Int) ≤ s.sp.toNat - 1)]

theorem State.push16_low_outside (s : State) (v : Word) (h : s.sp.toNat = 1) (hs : 1 ≤ s.cfg.memSize) :
    s.push16 v = .error (.outOfBoundsAccess (-1)) := by
  simp only [State.push16, h, s.memWrite_inside (hiByte v) (by omega : 0 ≤ ((1 : Nat) : Int) - 1) (by omega)]
  rw [State.memWrite_outside _ _ (Or.inl (by omega))]
  rfl

/-- A successful push: it fitted, and this is the state. -/
theorem State.push16_ok {s t : State} {v : Word} (h : s.push16 v = .ok t) :
    2 ≤ s.sp.toNat ∧ s.sp.toNat ≤ s.cfg.memSize ∧
      t = { s with
        mem := (s.mem.write (s.sp.toNat - 1) (hiByte v)).write (s.sp.toNat - 2) (loByte v), sp := s.sp - 2 } := by
  by_cases h0 : s.sp.toNat = 0 ∨ s.cfg.memSize < s.sp.toNat
  · rw [s.push16_high_outside v h0] at h; cases h
  · by_cases h1 : s.sp.toNat = 1
    · rw [s.push16_low_outside v h1 (by omega)] at h; cases h
    · rw [s.push16_fits v (by omega) (by omega)] at h
      exact ⟨by omega, by omega, (Except.ok.inj h).symm⟩

theorem State.pop16_fits (s : State) (h : s.sp.toNat + 1 < s.cfg.memSize) :
    s.pop16 = .ok (joinBytes (s.mem.read (s.sp.toNat + 1)) (s.mem.read s.sp.toNat), s.setSp (s.sp + 2)) := by
  simp only [State.pop16, s.memRead16_nat h]

theorem State.pop16_low_outside (s : State) (h : s.cfg.memSize ≤ s.sp.toNat) :
    s.pop16 = .error (.outOfBoundsAccess s.sp.toNat) := by
  simp only [State.pop16, s.memRead16_low_outside h]

theorem State.pop16_high_outside (s : State) (h : s.sp.toNat + 1 = s.cfg.memSize) :
    s.pop16 = .error (.outOfBoundsAccess (s.sp.toNat + 1)) := by
  simp only [State.pop16, s.memRead16_high_outside h]

/-- A successful pop: both bytes were inside memory. -/
theorem State.pop16_ok {s : State} {r : Word × State} (h : s.pop16 = .ok r) :
    s.sp.toNat + 1 < s.cfg.memSize ∧
      r = (joinBytes (s.mem.read (s.sp.toNat + 1)) (s.mem.read s.sp.toNat), s.setSp (s.sp + 2)) := by
  by_cases h1 : s.sp.toNat + 1 < s.cfg.memSize
  · rw [s.pop16_fits h1] at h; exact ⟨h1, (Except.ok.inj h).symm⟩
  · by_cases h2 : s.sp.toNat + 1 = s.cfg.memSize
    · rw [s.pop16_high_outside h2] at h; cases h
    · rw [s.pop16_low_outside (by omega)] at h; cases h

/-! ### What a checked access faults with -/

/-- The fault names an address that does not exist (20_memory.md R42, R45). -/
def NamesMissingByte (size : Nat) (f : Fault) : Prop := ∃ a : Int, f = .outOfBoundsAccess a ∧ (a < 0 ∨ (size : Int) ≤ a)

theorem State.memRead_error {s : State} {a : Int} {f : Fault} (h : s.memRead a = .error f) :
    NamesMissingByte s.cfg.memSize f := by
  by_cases hin : 0 ≤ a ∧ a < s.cfg.memSize
  · rw [s.memRead_inside hin.1 hin.2] at h; cases h
  · rw [s.memRead_outside (by omega)] at h; cases h; exact ⟨a, rfl, by omega⟩

theorem State.memWrite_error {s : State} {a : Int} {v : Byte} {f : Fault} (h : s.memWrite a v = .error f) :
    NamesMissingByte s.cfg.memSize f := by
  by_cases hin : 0 ≤ a ∧ a < s.cfg.memSize
  · rw [s.memWrite_inside v hin.1 hin.2] at h; cases h
  · rw [s.memWrite_outside v (by omega)] at h; cases h; exact ⟨a, rfl, by omega⟩

theorem State.memRead16_error {s : State} {a : Int} {f : Fault} (h : s.memRead16 a = .error f) :
    NamesMissingByte s.cfg.memSize f := by
  unfold State.memRead16 at h
  split at h
  · rename_i hr; cases h; exact State.memRead_error hr
  · split at h
    · rename_i hr; cases h; exact State.memRead_error hr
    · cases h

theorem State.memWrite16_error {s : State} {a : Int} {v : Word} {f : Fault} (h : s.memWrite16 a v = .error f) :
    NamesMissingByte s.cfg.memSize f := by
  unfold State.memWrite16 at h
  split at h
  · rename_i hw; cases h; exact State.memWrite_error hw
  · rename_i t ht
    obtain ⟨-, -, rfl⟩ := State.memWrite_ok ht
    have := State.memWrite_error h
    exact this

theorem State.push16_error {s : State} {v : Word} {f : Fault} (h : s.push16 v = .error f) :
    NamesMissingByte s.cfg.memSize f := by
  unfold State.push16 at h
  split at h
  · rename_i hw; cases h; exact State.memWrite_error hw
  · rename_i t ht
    obtain ⟨-, -, rfl⟩ := State.memWrite_ok ht
    split at h
    · rename_i hw; cases h
      have := State.memWrite_error hw
      exact this
    · cases h

theorem State.pop16_error {s : State} {f : Fault} (h : s.pop16 = .error f) : NamesMissingByte s.cfg.memSize f := by
  unfold State.pop16 at h
  split at h
  · rename_i hr; cases h; exact State.memRead16_error hr
  · cases h

theorem State.src8_error {s : State} {src : Src8} {f : Fault} (h : s.src8 src = .error f) :
    NamesMissingByte s.cfg.memSize f := by
  cases src with
  | reg r => cases h
  | m => exact State.memRead_error h
  | imm v => cases h

/-! ### Going on after a checked access -/

@[simp] theorem andThen_ok {α : Type} (v : α) (k : α → Out) : andThen (.ok v) k = k v := rfl

@[simp] theorem andThen_error {α : Type} (f : Fault) (k : α → Out) :
    andThen (.error f : Except Fault α) k = .fault f := rfl

theorem andThen_eq_next {α : Type} {r : Except Fault α} {k : α → Out} {t : State} (h : andThen r k = .next t) :
    ∃ v, r = .ok v ∧ k v = .next t := by
  cases r with
  | ok v => exact ⟨v, rfl, h⟩
  | error f => cases h

/-! ### Interrupts, faults, I/O -/

/-- Taking an interrupt whose push fits. -/
theorem State.takeInterrupt_fits (s : State) (n : Nat) (h2 : 2 ≤ s.sp.toNat) (hs : s.sp.toNat ≤ s.cfg.memSize) :
    s.takeInterrupt n = .ok { s with
      mem := (s.mem.write (s.sp.toNat - 1) (hiByte s.pc)).write (s.sp.toNat - 2) (loByte s.pc)
      sp := s.sp - 2, inte := false, pc := vectorAddr n, result := .taken } := by
  simp only [State.takeInterrupt, s.push16_fits s.pc h2 hs]

/-- Taking an interrupt: either the push faults and nothing has changed, or this is the state. -/
theorem State.takeInterrupt_ok {s t : State} {n : Nat} (h : s.takeInterrupt n = .ok t) :
    2 ≤ s.sp.toNat ∧ s.sp.toNat ≤ s.cfg.memSize ∧
      t = { s with
        mem := (s.mem.write (s.sp.toNat - 1) (hiByte s.pc)).write (s.sp.toNat - 2) (loByte s.pc)
        sp := s.sp - 2, inte := false, pc := vectorAddr n, result := .taken } := by
  simp only [State.takeInterrupt] at h
  split at h
  · cases h
  · rename_i u hu
    obtain ⟨h1, h2, rfl⟩ := State.push16_ok hu
    exact ⟨h1, h2, (Except.ok.inj h).symm⟩

theorem vectorAddr_toNat {n : Nat} (h : n < 8) : (vectorAddr n).toNat = 8 * n := by
  simp only [vectorAddr]; bv_omega

theorem State.ioRead_known {s : State} {port v : Byte} (h : s.inPorts.lookup port.toNat = some v) :
    s.ioRead port = v := by
  simp [State.ioRead, h]

theorem State.ioRead_free {s : State} {port : Byte} (h : s.inPorts.lookup port.toNat = none) :
    s.ioRead port = Config.freeInput s.inCount port := by
  simp [State.ioRead, h]

end Sys2Proof.Machine
end

