-- ==== Sys2Proof/Laws/Exec.lean ====
section
/-! SUPPORT. What `exec` does with the rows named by their fields (Decode.lean), and what a step is. -/

namespace Sys2Proof.Machine

variable (s : State)

theorem exec_mov (dst src : Reg8) : exec (Instr.mov dst src) s = moveReg dst src s := by
  cases dst <;> cases src <;> rfl
theorem exec_movFromM (r : Reg8) : exec (Instr.movFromM r) s = loadReg r s := by cases r <;> rfl
theorem exec_movToM (r : Reg8) : exec (Instr.movToM r) s = storeReg r s := by cases r <;> rfl
theorem exec_mvi (r : Reg8) (v : Byte) : exec (Instr.mvi r v) s = moveImm r v s := by cases r <;> rfl
theorem exec_lxi (q : Pair16) (w : Word) : exec (Instr.lxi q w) s = loadPairImm q w s := by cases q <;> rfl
theorem exec_ldax (p : IndPair) : exec (Instr.ldax p) s = loadIndirect p s := by cases p <;> rfl
theorem exec_stax (p : IndPair) : exec (Instr.stax p) s = storeIndirect p s := by cases p <;> rfl
theorem exec_inr (r : Reg8) : exec (Instr.inr r) s = stepReg inr8 r s := by cases r <;> rfl
theorem exec_dcr (r : Reg8) : exec (Instr.dcr r) s = stepReg dcr8 r s := by cases r <;> rfl
theorem exec_inx (q : Pair16) : exec (Instr.inx q) s = incPair q s := by cases q <;> rfl
theorem exec_dcx (q : Pair16) : exec (Instr.dcx q) s = decPair q s := by cases q <;> rfl
theorem exec_dad (q : Pair16) : exec (Instr.dad q) s = addPairToHl q s := by cases q <;> rfl
theorem exec_push (p : RegPair) : exec (Instr.push p) s = pushPair p s := by cases p <;> rfl
theorem exec_pop (p : RegPair) : exec (Instr.pop p) s = popPair p s := by cases p <;> rfl
theorem exec_jcc (code : Cond) (w : Word) : exec (Instr.jcc code w) s = jumpIf code w s := by cases code <;> rfl
theorem exec_ccc (code : Cond) (w : Word) : exec (Instr.ccc code w) s = callIf code w s := by cases code <;> rfl
theorem exec_rcc (code : Cond) : exec (Instr.rcc code) s = returnIf code s := by cases code <;> rfl

theorem exec_rst (n : Fin 8) : exec (Instr.rst n) s = restart n s := by
  match n with
  | 0 => rfl
  | 1 => rfl
  | 2 => rfl
  | 3 => rfl
  | 4 => rfl
  | 5 => rfl
  | 6 => rfl
  | 7 => rfl

/-- The operation of an ALU code on a source operand. -/
def aluMeaning : AluOp → Src8 → State → Out
  | .add => addFrom
  | .adc => addCarryFrom
  | .sub => subFrom
  | .sbb => subBorrowFrom
  | .ana => andFrom
  | .xra => xorFrom
  | .ora => orFrom
  | .cmp => compareWith

theorem exec_alu (op : AluOp) (src : Src8) : exec (Instr.alu op src) s = aluMeaning op src s := by
  rcases src with r | _ | v
  · cases op <;> cases r <;> rfl
  · cases op <;> rfl
  · cases op <;> rfl

/-- The result and flags each ALU code computes from `A`, the operand and the flags. -/
def aluFunction : AluOp → Byte → Byte → Flags → Byte × Flags
  | .add => fun a v f => aluAdd a v false f
  | .adc => fun a v f => aluAdd a v f.cy f
  | .sub => fun a v f => aluSub a v false f
  | .sbb => fun a v f => aluSub a v f.cy f
  | .ana => aluAnd
  | .xra => aluXor
  | .ora => aluOr
  | .cmp => fun a v f => aluSub a v false f

/-- Every ALU row but compare writes the result into `A`. -/
theorem exec_alu_into {op : AluOp} (src : Src8) (h : op ≠ .cmp) :
    exec (Instr.alu op src) s = intoAccumulator (aluFunction op) src s := by
  rw [exec_alu]
  cases op <;> first | rfl | exact absurd rfl h

/-- A step while halted changes nothing but the result it returns. -/
theorem step_halted (h : s.halted = true) : step s = .next { s with result := .halted } := by
  simp [step, stepWith, h]

/-- A step of a running core fetches and executes. -/
theorem step_running (h : s.halted = false) : step s = andThen (fetchInstr s) fun i => exec i s := by
  simp [step, stepWith, h]

/-- What a step that has a next state did. -/
theorem step_eq_next {s t : State} (h : step s = .next t) :
    (s.halted = true ∧ t = { s with result := .halted }) ∨
      (s.halted = false ∧ ∃ i, fetchInstr s = .ok i ∧ exec i s = .next t) := by
  by_cases hh : s.halted = true
  · rw [step_halted s hh] at h
    exact .inl ⟨hh, (Host.Outcome.next.inj h).symm⟩
  · have hr : s.halted = false := by simpa using hh
    rw [step_running s hr] at h
    exact .inr ⟨hr, andThen_eq_next h⟩

/-! ### Fetching -/

theorem opcodeLength_cases (op : Byte) : opcodeLength op = 1 ∨ opcodeLength op = 2 ∨ opcodeLength op = 3 := by
  unfold opcodeLength
  split_ifs <;> simp

theorem State.fetchByte_inside {k : Nat} (h : s.pc.toNat + k < s.cfg.memSize) :
    s.fetchByte k = .ok (s.mem.read (s.pc.toNat + k)) := by
  rw [State.fetchByte, s.memRead_inside (by omega) (by omega)]
  rfl

theorem State.fetchByte_outside {k : Nat} (h : s.cfg.memSize ≤ s.pc.toNat + k) :
    s.fetchByte k = .error (.outOfBoundsAccess (s.pc.toNat + k)) := by
  rw [State.fetchByte, s.memRead_outside (by omega)]

/-- The three lengths, in one equation: the instruction at `PC` when all its bytes are inside memory. -/
theorem fetchInstr_inside (h : s.pc.toNat + opcodeLength (s.mem.read s.pc.toNat) ≤ s.cfg.memSize) :
    fetchInstr s =
      .ok (instrOf (s.mem.read s.pc.toNat)
        (if 2 ≤ opcodeLength (s.mem.read s.pc.toNat) then s.mem.read (s.pc.toNat + 1) else 0)
        (if opcodeLength (s.mem.read s.pc.toNat) = 3 then s.mem.read (s.pc.toNat + 2) else 0)) := by
  have h0 : s.fetchByte 0 = .ok (s.mem.read s.pc.toNat) :=
    s.fetchByte_inside (by rcases opcodeLength_cases (s.mem.read s.pc.toNat) with e | e | e <;> omega)
  rcases opcodeLength_cases (s.mem.read s.pc.toNat) with e | e | e
  · simp [fetchInstr, h0, e]
  · simp [fetchInstr, h0, e, s.fetchByte_inside (k := 1) (by omega)]
  · simp [fetchInstr, h0, e, s.fetchByte_inside (k := 1) (by omega), s.fetchByte_inside (k := 2) (by omega)]

/-! ### Placing bytes -/

/-- Placing bytes from `a` up leaves every address below `a` alone. -/
theorem placeBytes_below (size : Nat) (bytes : List Byte) {m : Memory} {a x : Nat} (h : x < a) :
    (placeBytes size m a bytes).read x = m.read x := by
  induction bytes generalizing m a with
  | nil => rfl
  | cons v rest ih =>
    rw [placeBytes, ih (by omega)]
    split
    · exact Memory.read_write_ne _ _ (by omega)
    · rfl

/-- A placed byte that is inside memory reads back. -/
theorem placeBytes_read {size : Nat} (bytes : List Byte) {m : Memory} (h : Memory.wf size m = true) {a k : Nat}
    (hk : k < bytes.length) (ha : a + k < size) : (placeBytes size m a bytes).read (a + k) = bytes.getD k 0 := by
  induction bytes generalizing m a k with
  | nil => simp at hk
  | cons v rest ih =>
    rw [placeBytes, if_pos (by omega)]
    cases k with
    | zero =>
      rw [placeBytes_below _ _ (by omega : a + 0 < a + 1)]
      exact Memory.read_write_same h a v
    | succ k =>
      rw [show a + (k + 1) = a + 1 + k by omega,
        ih (Memory.write_wf h v (by omega)) (by simpa using hk) (by omega)]
      rfl

end Sys2Proof.Machine
end

