-- ==== Sys2Proof/Laws/Families.lean ====
section
/-! SUPPORT. A statement about every instruction follows from one case per family of rows (the names of Decode.lean):
19 families and the rows that stand alone, in place of 256 cases. -/

namespace Sys2Proof

theorem Instr.byFamily {P : Instr → Prop}
    (mov : ∀ (dst src : Reg8), P (Instr.mov dst src))
    (movFromM : ∀ (dst : Reg8), P (Instr.movFromM dst))
    (movToM : ∀ (src : Reg8), P (Instr.movToM src))
    (mvi : ∀ (dst : Reg8) (v : Byte), P (Instr.mvi dst v))
    (inr : ∀ (r : Reg8), P (Instr.inr r))
    (dcr : ∀ (r : Reg8), P (Instr.dcr r))
    (lxi : ∀ (q : Pair16) (w : Word), P (Instr.lxi q w))
    (inx : ∀ (q : Pair16), P (Instr.inx q))
    (dcx : ∀ (q : Pair16), P (Instr.dcx q))
    (dad : ∀ (q : Pair16), P (Instr.dad q))
    (ldax : ∀ (p : IndPair), P (Instr.ldax p))
    (stax : ∀ (p : IndPair), P (Instr.stax p))
    (push : ∀ (p : RegPair), P (Instr.push p))
    (pop : ∀ (p : RegPair), P (Instr.pop p))
    (jcc : ∀ (code : Cond) (w : Word), P (Instr.jcc code w))
    (ccc : ∀ (code : Cond) (w : Word), P (Instr.ccc code w))
    (rcc : ∀ (code : Cond), P (Instr.rcc code))
    (alu : ∀ (op : AluOp) (src : Src8), P (Instr.alu op src))
    (rst : ∀ (n : Fin 8), P (Instr.rst n))
    (nop : P .nop)
    (rlc : P .rlc)
    (undoc08 : P .undoc08)
    (rrc : P .rrc)
    (undoc10 : P .undoc10)
    (ral : P .ral)
    (undoc18 : P .undoc18)
    (rar : P .rar)
    (undoc20 : P .undoc20)
    (shld : ∀ (w : Word), P (.shld w))
    (daa : P .daa)
    (undoc28 : P .undoc28)
    (lhld : ∀ (w : Word), P (.lhld w))
    (cma : P .cma)
    (undoc30 : P .undoc30)
    (sta : ∀ (w : Word), P (.sta w))
    (inrM : P .inrM)
    (dcrM : P .dcrM)
    (mviM : ∀ (v : Byte), P (.mviM v))
    (stc : P .stc)
    (undoc38 : P .undoc38)
    (lda : ∀ (w : Word), P (.lda w))
    (cmc : P .cmc)
    (hlt : P .hlt)
    (jmp : ∀ (w : Word), P (.jmp w))
    (ret : P .ret)
    (undocCB : P .undocCB)
    (call : ∀ (w : Word), P (.call w))
    (outPort : ∀ (v : Byte), P (.outPort v))
    (undocD9 : P .undocD9)
    (inPort : ∀ (v : Byte), P (.inPort v))
    (undocDD : P .undocDD)
    (xthl : P .xthl)
    (pchl : P .pchl)
    (xchg : P .xchg)
    (undocED : P .undocED)
    (popPSW : P .popPSW)
    (di : P .di)
    (pushPSW : P .pushPSW)
    (sphl : P .sphl)
    (ei : P .ei)
    (undocFD : P .undocFD)
    (i : Instr) : P i := by
  cases i with
  | nop => exact nop
  | lxiB w => exact lxi .bc w
  | staxB => exact stax .bc
  | inxB => exact inx .bc
  | inrB => exact inr .b
  | dcrB => exact dcr .b
  | mviB v => exact mvi .b v
  | rlc => exact rlc
  | undoc08 => exact undoc08
  | dadB => exact dad .bc
  | ldaxB => exact ldax .bc
  | dcxB => exact dcx .bc
  | inrC => exact inr .c
  | dcrC => exact dcr .c
  | mviC v => exact mvi .c v
  | rrc => exact rrc
  | undoc10 => exact undoc10
  | lxiD w => exact lxi .de w
  | staxD => exact stax .de
  | inxD => exact inx .de
  | inrD => exact inr .d
  | dcrD => exact dcr .d
  | mviD v => exact mvi .d v
  | ral => exact ral
  | undoc18 => exact undoc18
  | dadD => exact dad .de
  | ldaxD => exact ldax .de
  | dcxD => exact dcx .de
  | inrE => exact inr .e
  | dcrE => exact dcr .e
  | mviE v => exact mvi .e v
  | rar => exact rar
  | undoc20 => exact undoc20
  | lxiH w => exact lxi .hl w
  | shld w => exact shld w
  | inxH => exact inx .hl
  | inrH => exact inr .h
  | dcrH => exact dcr .h
  | mviH v => exact mvi .h v
  | daa => exact daa
  | undoc28 => exact undoc28
  | dadH => exact dad .hl
  | lhld w => exact lhld w
  | dcxH => exact dcx .hl
  | inrL => exact inr .l
  | dcrL => exact dcr .l
  | mviL v => exact mvi .l v
  | cma => exact cma
  | undoc30 => exact undoc30
  | lxiSP w => exact lxi .sp w
  | sta w => exact sta w
  | inxSP => exact inx .sp
  | inrM => exact inrM
  | dcrM => exact dcrM
  | mviM v => exact mviM v
  | stc => exact stc
  | undoc38 => exact undoc38
  | dadSP => exact dad .sp
  | lda w => exact lda w
  | dcxSP => exact dcx .sp
  | inrA => exact inr .a
  | dcrA => exact dcr .a
  | mviA v => exact mvi .a v
  | cmc => exact cmc
  | movBB => exact mov .b .b
  | movBC => exact mov .b .c
  | movBD => exact mov .b .d
  | movBE => exact mov .b .e
  | movBH => exact mov .b .h
  | movBL => exact mov .b .l
  | movBM => exact movFromM .b
  | movBA => exact mov .b .a
  | movCB => exact mov .c .b
  | movCC => exact mov .c .c
  | movCD => exact mov .c .d
  | movCE => exact mov .c .e
  | movCH => exact mov .c .h
  | movCL => exact mov .c .l
  | movCM => exact movFromM .c
  | movCA => exact mov .c .a
  | movDB => exact mov .d .b
  | movDC => exact mov .d .c
  | movDD => exact mov .d .d
  | movDE => exact mov .d .e
  | movDH => exact mov .d .h
  | movDL => exact mov .d .l
  | movDM => exact movFromM .d
  | movDA => exact mov .d .a
  | movEB => exact mov .e .b
  | movEC => exact mov .e .c
  | movED => exact mov .e .d
  | movEE => exact mov .e .e
  | movEH => exact mov .e .h
  | movEL => exact mov .e .l
  | movEM => exact movFromM .e
  | movEA => exact mov .e .a
  | movHB => exact mov .h .b
  | movHC => exact mov .h .c
  | movHD => exact mov .h .d
  | movHE => exact mov .h .e
  | movHH => exact mov .h .h
  | movHL => exact mov .h .l
  | movHM => exact movFromM .h
  | movHA => exact mov .h .a
  | movLB => exact mov .l .b
  | movLC => exact mov .l .c
  | movLD => exact mov .l .d
  | movLE => exact mov .l .e
  | movLH => exact mov .l .h
  | movLL => exact mov .l .l
  | movLM => exact movFromM .l
  | movLA => exact mov .l .a
  | movMB => exact movToM .b
  | movMC => exact movToM .c
  | movMD => exact movToM .d
  | movME => exact movToM .e
  | movMH => exact movToM .h
  | movML => exact movToM .l
  | hlt => exact hlt
  | movMA => exact movToM .a
  | movAB => exact mov .a .b
  | movAC => exact mov .a .c
  | movAD => exact mov .a .d
  | movAE => exact mov .a .e
  | movAH => exact mov .a .h
  | movAL => exact mov .a .l
  | movAM => exact movFromM .a
  | movAA => exact mov .a .a
  | addB => exact alu .add (.reg .b)
  | addC => exact alu .add (.reg .c)
  | addD => exact alu .add (.reg .d)
  | addE => exact alu .add (.reg .e)
  | addH => exact alu .add (.reg .h)
  | addL => exact alu .add (.reg .l)
  | addM => exact alu .add .m
  | addA => exact alu .add (.reg .a)
  | adcB => exact alu .adc (.reg .b)
  | adcC => exact alu .adc (.reg .c)
  | adcD => exact alu .adc (.reg .d)
  | adcE => exact alu .adc (.reg .e)
  | adcH => exact alu .adc (.reg .h)
  | adcL => exact alu .adc (.reg .l)
  | adcM => exact alu .adc .m
  | adcA => exact alu .adc (.reg .a)
  | subB => exact alu .sub (.reg .b)
  | subC => exact alu .sub (.reg .c)
  | subD => exact alu .sub (.reg .d)
  | subE => exact alu .sub (.reg .e)
  | subH => exact alu .sub (.reg .h)
  | subL => exact alu .sub (.reg .l)
  | subM => exact alu .sub .m
  | subA => exact alu .sub (.reg .a)
  | sbbB => exact alu .sbb (.reg .b)
  | sbbC => exact alu .sbb (.reg .c)
  | sbbD => exact alu .sbb (.reg .d)
  | sbbE => exact alu .sbb (.reg .e)
  | sbbH => exact alu .sbb (.reg .h)
  | sbbL => exact alu .sbb (.reg .l)
  | sbbM => exact alu .sbb .m
  | sbbA => exact alu .sbb (.reg .a)
  | anaB => exact alu .ana (.reg .b)
  | anaC => exact alu .ana (.reg .c)
  | anaD => exact alu .ana (.reg .d)
  | anaE => exact alu .ana (.reg .e)
  | anaH => exact alu .ana (.reg .h)
  | anaL => exact alu .ana (.reg .l)
  | anaM => exact alu .ana .m
  | anaA => exact alu .ana (.reg .a)
  | xraB => exact alu .xra (.reg .b)
  | xraC => exact alu .xra (.reg .c)
  | xraD => exact alu .xra (.reg .d)
  | xraE => exact alu .xra (.reg .e)
  | xraH => exact alu .xra (.reg .h)
  | xraL => exact alu .xra (.reg .l)
  | xraM => exact alu .xra .m
  | xraA => exact alu .xra (.reg .a)
  | oraB => exact alu .ora (.reg .b)
  | oraC => exact alu .ora (.reg .c)
  | oraD => exact alu .ora (.reg .d)
  | oraE => exact alu .ora (.reg .e)
  | oraH => exact alu .ora (.reg .h)
  | oraL => exact alu .ora (.reg .l)
  | oraM => exact alu .ora .m
  | oraA => exact alu .ora (.reg .a)
  | cmpB => exact alu .cmp (.reg .b)
  | cmpC => exact alu .cmp (.reg .c)
  | cmpD => exact alu .cmp (.reg .d)
  | cmpE => exact alu .cmp (.reg .e)
  | cmpH => exact alu .cmp (.reg .h)
  | cmpL => exact alu .cmp (.reg .l)
  | cmpM => exact alu .cmp .m
  | cmpA => exact alu .cmp (.reg .a)
  | rnz => exact rcc .nz
  | popB => exact pop .bc
  | jnz w => exact jcc .nz w
  | jmp w => exact jmp w
  | cnz w => exact ccc .nz w
  | pushB => exact push .bc
  | adi v => exact alu .add (.imm v)
  | rst0 => exact rst 0
  | rz => exact rcc .z
  | ret => exact ret
  | jz w => exact jcc .z w
  | undocCB => exact undocCB
  | cz w => exact ccc .z w
  | call w => exact call w
  | aci v => exact alu .adc (.imm v)
  | rst1 => exact rst 1
  | rnc => exact rcc .nc
  | popD => exact pop .de
  | jnc w => exact jcc .nc w
  | outPort v => exact outPort v
  | cnc w => exact ccc .nc w
  | pushD => exact push .de
  | sui v => exact alu .sub (.imm v)
  | rst2 => exact rst 2
  | rc => exact rcc .c
  | undocD9 => exact undocD9
  | jc w => exact jcc .c w
  | inPort v => exact inPort v
  | cc w => exact ccc .c w
  | undocDD => exact undocDD
  | sbi v => exact alu .sbb (.imm v)
  | rst3 => exact rst 3
  | rpo => exact rcc .po
  | popH => exact pop .hl
  | jpo w => exact jcc .po w
  | xthl => exact xthl
  | cpo w => exact ccc .po w
  | pushH => exact push .hl
  | ani v => exact alu .ana (.imm v)
  | rst4 => exact rst 4
  | rpe => exact rcc .pe
  | pchl => exact pchl
  | jpe w => exact jcc .pe w
  | xchg => exact xchg
  | cpe w => exact ccc .pe w
  | undocED => exact undocED
  | xri v => exact alu .xra (.imm v)
  | rst5 => exact rst 5
  | rp => exact rcc .p
  | popPSW => exact popPSW
  | jp w => exact jcc .p w
  | di => exact di
  | cp w => exact ccc .p w
  | pushPSW => exact pushPSW
  | ori v => exact alu .ora (.imm v)
  | rst6 => exact rst 6
  | rm => exact rcc .m
  | sphl => exact sphl
  | jm w => exact jcc .m w
  | ei => exact ei
  | cm w => exact ccc .m w
  | undocFD => exact undocFD
  | cpi v => exact alu .cmp (.imm v)
  | rst7 => exact rst 7

end Sys2Proof
end

