-- ==== Sys2Proof/Laws/Effect.lean ====
section
/-! SUPPORT. What any instruction can do to memory, `ICOUNT`, the control bits and the model's own fields: the lemmas for
the properties of every step, so that none of them takes `exec` apart again. -/

namespace Sys2Proof.Machine

/-- What every executed instruction can have done (20_memory.md R42, 60_exceptions.md R240 step 8): at most two bytes
written, both inside memory; parameters and input table as before; `ICOUNT` one higher. -/
structure Effect (s t : State) : Prop where
  mem : t.mem = s.mem ∨ (∃ a v, a < s.cfg.memSize ∧ t.mem = s.mem.write a v) ∨
    (∃ a v b w, a < s.cfg.memSize ∧ b < s.cfg.memSize ∧ t.mem = (s.mem.write a v).write b w)
  cfg : t.cfg = s.cfg
  inPorts : t.inPorts = s.inPorts
  icount : t.icount = s.icount + 1

/-- The control bits and what crosses the I/O boundary are as before: all but `EI`, `DI`, `HLT`, `IN`, `OUT` and an
undocumented byte that faults. -/
structure Quiet (s t : State) : Prop where
  inte : t.inte = s.inte
  halted : t.halted = s.halted
  outputs : t.outputs = s.outputs
  inCount : t.inCount = s.inCount

/-- Both. -/
structure Plain (s t : State) : Prop extends Effect s t, Quiet s t

/-- The rows that may write a control bit or cross the I/O boundary. -/
def Special (i : Instr) : Prop :=
  i = .ei ∨ i = .di ∨ i = .hlt ∨ (∃ p, i = .inPort p) ∨ (∃ p, i = .outPort p) ∨ i ∈ undocumentedRows.map Prod.fst

/-- A continuation that ends an instruction and touches nothing of the above but `ICOUNT`. -/
structure Retires (k : State → State) : Prop where
  mem : ∀ u, (k u).mem = u.mem
  cfg : ∀ u, (k u).cfg = u.cfg
  inPorts : ∀ u, (k u).inPorts = u.inPorts
  icount : ∀ u, (k u).icount = u.icount + 1
  quiet : ∀ u, Quiet u (k u)

variable {s t : State}

theorem Quiet.refl (s : State) : Quiet s s := ⟨rfl, rfl, rfl, rfl⟩

theorem Quiet.trans {u : State} (h : Quiet s t) (h' : Quiet t u) : Quiet s u :=
  ⟨h'.1.trans h.1, h'.2.trans h.2, h'.3.trans h.3, h'.4.trans h.4⟩

theorem Retires.plain {k : State → State} (hk : Retires k) {u : State}
    (hm : u.mem = s.mem ∨ (∃ a v, a < s.cfg.memSize ∧ u.mem = s.mem.write a v) ∨
      (∃ a v b w, a < s.cfg.memSize ∧ b < s.cfg.memSize ∧ u.mem = (s.mem.write a v).write b w))
    (hc : u.cfg = s.cfg) (hp : u.inPorts = s.inPorts) (hi : u.icount = s.icount) (hq : Quiet s u) : Plain s (k u) where
  mem := by rw [hk.mem]; exact hm
  cfg := (hk.cfg u).trans hc
  inPorts := (hk.inPorts u).trans hp
  icount := by rw [hk.icount, hi]
  toQuiet := hq.trans (hk.quiet u)

theorem Plain.of_eq {u : State} (hm : u.mem = s.mem) (hc : u.cfg = s.cfg) (hp : u.inPorts = s.inPorts)
    (hi : u.icount = s.icount + 1) (hq : Quiet s u) : Plain s u :=
  { mem := .inl hm, cfg := hc, inPorts := hp, icount := hi, toQuiet := hq }

theorem Plain.of_next {u : State} (h : (.next u : Out) = .next t) (e : Plain s u) : Plain s t :=
  Host.Outcome.next.inj h ▸ e

theorem Plain.of_read {α : Type} {r : Except Fault α} {k : α → State}
    (h : (andThen r fun v => .next (k v)) = .next t) (e : ∀ v, Plain s (k v)) : Plain s t := by
  obtain ⟨v, -, hv⟩ := andThen_eq_next h
  exact .of_next hv (e v)

theorem Plain.of_write {a : Int} {v : Byte} {k : State → State}
    (h : (andThen (s.memWrite a v) fun u => .next (k u)) = .next t) (hk : Retires k) : Plain s t := by
  obtain ⟨u, hu, hv⟩ := andThen_eq_next h
  obtain ⟨h0, h1, rfl⟩ := State.memWrite_ok hu
  exact .of_next hv (hk.plain (.inr (.inl ⟨a.toNat, v, by omega, rfl⟩)) rfl rfl rfl ⟨rfl, rfl, rfl, rfl⟩)

theorem Plain.of_write16 {n : Nat} {v : Word} {k : State → State}
    (h : (andThen (s.memWrite16 n v) fun u => .next (k u)) = .next t) (hk : Retires k) : Plain s t := by
  obtain ⟨u, hu, hv⟩ := andThen_eq_next h
  obtain ⟨h1, rfl⟩ := State.memWrite16_ok hu
  exact .of_next hv (hk.plain (.inr (.inr ⟨n, _, n + 1, _, by omega, h1, rfl⟩)) rfl rfl rfl ⟨rfl, rfl, rfl, rfl⟩)

theorem Plain.of_push {v : Word} {k : State → State}
    (h : (andThen (s.push16 v) fun u => .next (k u)) = .next t) (hk : Retires k) : Plain s t := by
  obtain ⟨u, hu, hv⟩ := andThen_eq_next h
  obtain ⟨h1, h2, rfl⟩ := State.push16_ok hu
  exact .of_next hv (hk.plain (.inr (.inr ⟨_, _, _, _, by omega, by omega, rfl⟩)) rfl rfl rfl ⟨rfl, rfl, rfl, rfl⟩)

theorem retires_retire (n : Nat) : Retires fun u => u.retire n := ⟨fun _ => rfl, fun _ => rfl, fun _ => rfl, fun _ => rfl, fun _ => ⟨rfl, rfl, rfl, rfl⟩⟩

theorem retires_retireTo (w : Word) : Retires fun u => u.retireTo w :=
  ⟨fun _ => rfl, fun _ => rfl, fun _ => rfl, fun _ => rfl, fun _ => ⟨rfl, rfl, rfl, rfl⟩⟩

theorem callTo_plain {len : Nat} {w : Word} (h : s.callTo len w = .next t) : Plain s t :=
  .of_push h (retires_retireTo w)

theorem returnFrom_plain (h : s.returnFrom = .next t) : Plain s t := by
  obtain ⟨r, hr, hv⟩ := andThen_eq_next h
  obtain ⟨-, rfl⟩ := State.pop16_ok hr
  exact .of_next hv (.of_eq rfl rfl rfl rfl ⟨rfl, rfl, rfl, rfl⟩)

theorem intoAccumulator_plain {f : Byte → Byte → Flags → Byte × Flags} {src : Src8}
    (h : intoAccumulator f src s = .next t) : Plain s t :=
  .of_read h fun _ => .of_eq rfl rfl rfl rfl ⟨rfl, rfl, rfl, rfl⟩

theorem stepMem_plain {f : Byte → Flags → Byte × Flags} (h : stepMem f s = .next t) : Plain s t := by
  obtain ⟨v, -, hv⟩ := andThen_eq_next h
  exact .of_write (k := fun u => (u.setFlags (f v s.flags).2).retire 1) hv
    ⟨fun _ => rfl, fun _ => rfl, fun _ => rfl, fun _ => rfl, fun _ => ⟨rfl, rfl, rfl, rfl⟩⟩

theorem noOperation_plain (h : noOperation s = .next t) : Plain s t := .of_next h (.of_eq rfl rfl rfl rfl ⟨rfl, rfl, rfl, rfl⟩)

theorem callAlias_plain (h : callAlias s = .next t) : Plain s t := by
  obtain ⟨w, -, hw⟩ := andThen_eq_next h
  exact callTo_plain hw

theorem jumpAlias_plain (h : jumpAlias s = .next t) : Plain s t :=
  .of_read h fun _ => .of_eq rfl rfl rfl rfl ⟨rfl, rfl, rfl, rfl⟩

theorem xthl_plain (h : execXthl s = .next t) : Plain s t := by
  obtain ⟨v, -, hv⟩ := andThen_eq_next h
  exact .of_write16 (k := fun u => (u.setPair .hl v).retire 1) hv ⟨fun _ => rfl, fun _ => rfl, fun _ => rfl, fun _ => rfl, fun _ => ⟨rfl, rfl, rfl, rfl⟩⟩

/-- An undocumented byte under the policy `alias` is as quiet as what it aliases. -/
theorem undocumented_plain {op : Byte} {asAlias : State → Out} (ha : asAlias s = .next t → Plain s t)
    (hp : s.cfg.undocPolicy = .aliased) (h : undocumented op asAlias s = .next t) : Plain s t := by
  rw [undocumented, hp] at h
  exact ha h

/-- An undocumented byte under the policy `fault`. -/
theorem undocumented_fault {op : Byte} {asAlias : State → Out} (hp : s.cfg.undocPolicy = .fault)
    (h : undocumented op asAlias s = .next t) : t = s.raiseUnimplemented op := by
  rw [undocumented, hp] at h
  exact (Host.Outcome.next.inj h).symm

/-- An undocumented row: `UnimplementedOpcode` or a quiet alias, by the policy. -/
theorem exec_undocumented {i : Instr} (hi : i ∈ undocumentedRows.map Prod.fst) (h : exec i s = .next t) :
    (s.cfg.undocPolicy = .fault ∧ ∃ op, t = s.raiseUnimplemented op) ∨ (s.cfg.undocPolicy = .aliased ∧ Plain s t) := by
  have hor : ∀ {op : Byte} {asAlias : State → Out}, (asAlias s = .next t → Plain s t) →
      undocumented op asAlias s = .next t →
      (s.cfg.undocPolicy = .fault ∧ ∃ op, t = s.raiseUnimplemented op) ∨
        (s.cfg.undocPolicy = .aliased ∧ Plain s t) := by
    intro op asAlias ha h
    cases hp : s.cfg.undocPolicy
    · exact .inl ⟨rfl, op, undocumented_fault hp h⟩
    · exact .inr ⟨rfl, undocumented_plain ha hp h⟩
  simp only [undocumentedRows, List.map_cons, List.map_nil, List.mem_cons, List.not_mem_nil, or_false] at hi
  rcases hi with rfl | rfl | rfl | rfl | rfl | rfl | rfl | rfl | rfl | rfl | rfl | rfl
  · exact hor noOperation_plain h
  · exact hor noOperation_plain h
  · exact hor noOperation_plain h
  · exact hor noOperation_plain h
  · exact hor noOperation_plain h
  · exact hor noOperation_plain h
  · exact hor noOperation_plain h
  · exact hor jumpAlias_plain h
  · exact hor returnFrom_plain h
  · exact hor callAlias_plain h
  · exact hor callAlias_plain h
  · exact hor callAlias_plain h

/-- Every row but the special ones. -/
theorem exec_plain {i : Instr} (hs : ¬ Special i) (h : exec i s = .next t) : Plain s t := by
  revert h
  induction i using Instr.byFamily with
  | mov => rw [exec_mov]; exact fun h => .of_next h (.of_eq rfl rfl rfl rfl ⟨rfl, rfl, rfl, rfl⟩)
  | movFromM => rw [exec_movFromM]; exact fun h => .of_read h fun _ => .of_eq rfl rfl rfl rfl ⟨rfl, rfl, rfl, rfl⟩
  | movToM => rw [exec_movToM]; exact fun h => .of_write h (retires_retire 1)
  | mvi => rw [exec_mvi]; exact fun h => .of_next h (.of_eq rfl rfl rfl rfl ⟨rfl, rfl, rfl, rfl⟩)
  | inr => rw [exec_inr]; exact fun h => .of_next h (.of_eq rfl rfl rfl rfl ⟨rfl, rfl, rfl, rfl⟩)
  | dcr => rw [exec_dcr]; exact fun h => .of_next h (.of_eq rfl rfl rfl rfl ⟨rfl, rfl, rfl, rfl⟩)
  | lxi => rw [exec_lxi]; exact fun h => .of_next h (.of_eq (by simp) (by simp) (by simp) (by simp) ⟨by simp, by simp, by simp, by simp⟩)
  | inx => rw [exec_inx]; exact fun h => .of_next h (.of_eq (by simp) (by simp) (by simp) (by simp) ⟨by simp, by simp, by simp, by simp⟩)
  | dcx => rw [exec_dcx]; exact fun h => .of_next h (.of_eq (by simp) (by simp) (by simp) (by simp) ⟨by simp, by simp, by simp, by simp⟩)
  | dad => rw [exec_dad]; exact fun h => .of_next h (.of_eq rfl rfl rfl rfl ⟨rfl, rfl, rfl, rfl⟩)
  | ldax => rw [exec_ldax]; exact fun h => .of_read h fun _ => .of_eq rfl rfl rfl rfl ⟨rfl, rfl, rfl, rfl⟩
  | stax => rw [exec_stax]; exact fun h => .of_write h (retires_retire 1)
  | push => rw [exec_push]; exact fun h => .of_push h (retires_retire 1)
  | pop p =>
    rw [exec_pop]; intro h
    obtain ⟨r, hr, hv⟩ := andThen_eq_next h
    obtain ⟨-, rfl⟩ := State.pop16_ok hr
    exact .of_next hv (.of_eq rfl rfl rfl rfl ⟨rfl, rfl, rfl, rfl⟩)
  | jcc code w =>
    rw [exec_jcc, jumpIf]; intro h
    split at h
    · exact .of_next h (.of_eq rfl rfl rfl rfl ⟨rfl, rfl, rfl, rfl⟩)
    · exact .of_next h (.of_eq rfl rfl rfl rfl ⟨rfl, rfl, rfl, rfl⟩)
  | ccc code w =>
    rw [exec_ccc, callIf]; intro h
    split at h
    · exact callTo_plain h
    · exact .of_next h (.of_eq rfl rfl rfl rfl ⟨rfl, rfl, rfl, rfl⟩)
  | rcc code =>
    rw [exec_rcc, returnIf]; intro h
    split at h
    · exact returnFrom_plain h
    · exact .of_next h (.of_eq rfl rfl rfl rfl ⟨rfl, rfl, rfl, rfl⟩)
  | alu op src =>
    by_cases hop : op = .cmp
    · subst hop; rw [exec_alu]; exact fun h => .of_read h fun _ => .of_eq rfl rfl rfl rfl ⟨rfl, rfl, rfl, rfl⟩
    · rw [exec_alu_into s src hop]; exact intoAccumulator_plain
  | rst n => rw [exec_rst]; exact callTo_plain
  | nop => exact noOperation_plain
  | shld w => exact fun h => .of_write16 h (retires_retire 3)
  | lhld w => exact fun h => .of_read h fun _ => .of_eq rfl rfl rfl rfl ⟨rfl, rfl, rfl, rfl⟩
  | sta w => exact fun h => .of_write h (retires_retire 3)
  | lda w => exact fun h => .of_read h fun _ => .of_eq rfl rfl rfl rfl ⟨rfl, rfl, rfl, rfl⟩
  | mviM v => exact fun h => .of_write h (retires_retire 2)
  | inrM => exact stepMem_plain
  | dcrM => exact stepMem_plain
  | call w => exact callTo_plain
  | ret => exact returnFrom_plain
  | xthl => exact xthl_plain
  | pushPSW => exact fun h => .of_push h (retires_retire 1)
  | popPSW =>
    intro h
    obtain ⟨r, hr, hv⟩ := andThen_eq_next h
    obtain ⟨-, rfl⟩ := State.pop16_ok hr
    exact .of_next hv (.of_eq rfl rfl rfl rfl ⟨rfl, rfl, rfl, rfl⟩)
  | rlc | rrc | ral | rar | daa | cma | stc | cmc | jmp | pchl | xchg | sphl =>
    exact fun h => .of_next h (.of_eq rfl rfl rfl rfl ⟨rfl, rfl, rfl, rfl⟩)
  | ei => exact absurd (.inl rfl) hs
  | di => exact absurd (.inr (.inl rfl)) hs
  | hlt => exact absurd (.inr (.inr (.inl rfl))) hs
  | inPort p => exact absurd (.inr (.inr (.inr (.inl ⟨p, rfl⟩)))) hs
  | outPort p => exact absurd (.inr (.inr (.inr (.inr (.inl ⟨p, rfl⟩))))) hs
  | undoc08 | undoc10 | undoc18 | undoc20 | undoc28 | undoc30 | undoc38 | undocCB | undocD9 | undocDD | undocED |
      undocFD => exact absurd (.inr (.inr (.inr (.inr (.inr (by simp [undocumentedRows])))))) hs

/-- Whatever instruction was executed, this is what it can have done. -/
theorem exec_effect {i : Instr} (h : exec i s = .next t) : Effect s t := by
  by_cases hs : Special i
  · have of : ∀ {u : State}, (.next u : Out) = .next t → Effect s u → Effect s t := fun h e =>
      Host.Outcome.next.inj h ▸ e
    rcases hs with rfl | rfl | rfl | ⟨p, rfl⟩ | ⟨p, rfl⟩ | hu
    · exact of h ⟨.inl rfl, rfl, rfl, rfl⟩
    · exact of h ⟨.inl rfl, rfl, rfl, rfl⟩
    · exact of h ⟨.inl rfl, rfl, rfl, rfl⟩
    · exact of h ⟨.inl rfl, rfl, rfl, rfl⟩
    · exact of h ⟨.inl rfl, rfl, rfl, rfl⟩
    · obtain ⟨-, op, rfl⟩ | ⟨-, hp⟩ := exec_undocumented hu h
      · exact ⟨.inl rfl, rfl, rfl, rfl⟩
      · exact hp.toEffect
  · exact (exec_plain hs h).toEffect

end Sys2Proof.Machine
end

