-- ==== Sys2Proof/Laws/Flags.lean ====
section
/-! SUPPORT. What each flag computation answers, field by field and as numbers (41_arithmetic.md R120, R121, R135;
42_logical.md R160; 43_rotate.md R180 to R183; 10_state.md R22, R23). -/

namespace Sys2Proof.Machine

variable (a b v x : Byte) (c : Bool) (f : Flags)

@[simp] theorem Flags.setZSP_z : (f.setZSP v).z = decide (v = 0) := rfl
@[simp] theorem Flags.setZSP_s : (f.setZSP v).s = v.getLsbD 7 := rfl
@[simp] theorem Flags.setZSP_p : (f.setZSP v).p = parity v := rfl
@[simp] theorem Flags.setZSP_cy : (f.setZSP v).cy = f.cy := rfl
@[simp] theorem Flags.setZSP_ac : (f.setZSP v).ac = f.ac := rfl

/-- The flags are their five bits. -/
theorem Flags.ext_bits {f g : Flags} (hz : f.z = g.z) (hs : f.s = g.s) (hp : f.p = g.p) (hc : f.cy = g.cy)
    (ha : f.ac = g.ac) : f = g := by
  cases f; cases g; simp_all

theorem toNat_bool_le (c : Bool) : c.toNat ≤ 1 := Bool.toNat_le c

theorem aluAdd_toNat : (aluAdd a b c f).1.toNat = (a.toNat + b.toNat + c.toNat) % 256 := by
  simp [aluAdd]

@[simp] theorem aluAdd_cy : (aluAdd a b c f).2.cy = decide (a.toNat + b.toNat + c.toNat > 255) := rfl
@[simp] theorem aluAdd_ac :
    (aluAdd a b c f).2.ac = decide (a.toNat % 16 + b.toNat % 16 + c.toNat > 15) := rfl
@[simp] theorem aluAdd_z : (aluAdd a b c f).2.z = decide ((aluAdd a b c f).1 = 0) := rfl
@[simp] theorem aluAdd_s : (aluAdd a b c f).2.s = (aluAdd a b c f).1.getLsbD 7 := rfl
@[simp] theorem aluAdd_p : (aluAdd a b c f).2.p = parity (aluAdd a b c f).1 := rfl

theorem aluSub_toNat :
    ((aluSub a b c f).1.toNat : Int) = ((a.toNat : Int) - b.toNat - c.toNat) % 256 := by
  simp only [aluSub, BitVec.toNat_ofInt]
  omega

@[simp] theorem aluSub_cy : (aluSub a b c f).2.cy = decide (a.toNat < b.toNat + c.toNat) := rfl
@[simp] theorem aluSub_ac :
    (aluSub a b c f).2.ac = decide (a.toNat % 16 ≥ b.toNat % 16 + c.toNat) := rfl
@[simp] theorem aluSub_z : (aluSub a b c f).2.z = decide ((aluSub a b c f).1 = 0) := rfl
@[simp] theorem aluSub_s : (aluSub a b c f).2.s = (aluSub a b c f).1.getLsbD 7 := rfl
@[simp] theorem aluSub_p : (aluSub a b c f).2.p = parity (aluSub a b c f).1 := rfl

theorem inr8_toNat : (inr8 x f).1.toNat = (x.toNat + 1) % 256 := by simp [inr8]

@[simp] theorem inr8_cy : (inr8 x f).2.cy = f.cy := rfl
@[simp] theorem inr8_ac : (inr8 x f).2.ac = decide (x.toNat % 16 = 15) := rfl
@[simp] theorem inr8_z : (inr8 x f).2.z = decide ((inr8 x f).1 = 0) := rfl
@[simp] theorem inr8_s : (inr8 x f).2.s = (inr8 x f).1.getLsbD 7 := rfl
@[simp] theorem inr8_p : (inr8 x f).2.p = parity (inr8 x f).1 := rfl

theorem dcr8_toNat : (dcr8 x f).1.toNat = (x.toNat + 255) % 256 := by
  simp only [dcr8, BitVec.toNat_ofInt]
  omega

@[simp] theorem dcr8_cy : (dcr8 x f).2.cy = f.cy := rfl
@[simp] theorem dcr8_ac : (dcr8 x f).2.ac = decide (x.toNat % 16 ≠ 0) := rfl
@[simp] theorem dcr8_z : (dcr8 x f).2.z = decide ((dcr8 x f).1 = 0) := rfl
@[simp] theorem dcr8_s : (dcr8 x f).2.s = (dcr8 x f).1.getLsbD 7 := rfl
@[simp] theorem dcr8_p : (dcr8 x f).2.p = parity (dcr8 x f).1 := rfl

@[simp] theorem aluAnd_fst : (aluAnd a b f).1 = a &&& b := rfl
@[simp] theorem aluXor_fst : (aluXor a b f).1 = a ^^^ b := rfl
@[simp] theorem aluOr_fst : (aluOr a b f).1 = a ||| b := rfl

@[simp] theorem addPair_cy (u w : Word) : (addPair u w f).2.cy = decide (u.toNat + w.toNat > 65535) := rfl

theorem addPair_toNat (u w : Word) : (addPair u w f).1.toNat = (u.toNat + w.toNat) % 65536 := by
  simp [addPair]

/-- Reading back a flag byte gives the flags it was made from. -/
@[simp] theorem flagsOfByte_flagByte : flagsOfByte (flagByte f) = f := by
  obtain ⟨z, s, p, cy, ac⟩ := f
  revert z s p cy ac
  decide

/-- Making a flag byte from a popped one keeps bits 7, 6, 4, 2, 0, sets bit 1 and clears bits 5 and 3
(44_stack_control.md R193, corner cases). -/
theorem flagByte_flagsOfByte : flagByte (flagsOfByte v) = (v &&& 0xD5) ||| 0x02 := by
  revert v; decide

end Sys2Proof.Machine
end

