-- ==== Sys2Proof/Laws/Inputs.lean ====
section
/-! SUPPORT. The shared operations do not look at the input boundary: each does the same on `s.withInputs ports n` as on
`s`. An instruction built from them, but for `IN`, then reads no input. -/

namespace Sys2Proof.Machine

variable (s : State) (ports : PortTable) (n : Nat)

/-! ### The fields -/

@[simp] theorem State.withInputs_regs : (s.withInputs ports n).regs = s.regs := rfl
@[simp] theorem State.withInputs_flags : (s.withInputs ports n).flags = s.flags := rfl
@[simp] theorem State.withInputs_sp : (s.withInputs ports n).sp = s.sp := rfl
@[simp] theorem State.withInputs_pc : (s.withInputs ports n).pc = s.pc := rfl
@[simp] theorem State.withInputs_inte : (s.withInputs ports n).inte = s.inte := rfl
@[simp] theorem State.withInputs_halted : (s.withInputs ports n).halted = s.halted := rfl
@[simp] theorem State.withInputs_icount : (s.withInputs ports n).icount = s.icount := rfl
@[simp] theorem State.withInputs_mem : (s.withInputs ports n).mem = s.mem := rfl
@[simp] theorem State.withInputs_result : (s.withInputs ports n).result = s.result := rfl
@[simp] theorem State.withInputs_outputs : (s.withInputs ports n).outputs = s.outputs := rfl
@[simp] theorem State.withInputs_inPorts : (s.withInputs ports n).inPorts = ports := rfl
@[simp] theorem State.withInputs_inCount : (s.withInputs ports n).inCount = n := rfl
@[simp] theorem State.withInputs_cfg : (s.withInputs ports n).cfg = s.cfg := rfl

/-! ### Reading -/

@[simp] theorem State.withInputs_reg (r : Reg8) : (s.withInputs ports n).reg r = s.reg r := rfl
@[simp] theorem State.withInputs_pair (p : RegPair) : (s.withInputs ports n).pair p = s.pair p := rfl
@[simp] theorem State.withInputs_hl : (s.withInputs ports n).hl = s.hl := rfl
@[simp] theorem State.withInputs_pair16 (q : Pair16) : (s.withInputs ports n).pair16 q = s.pair16 q := by cases q <;> rfl
@[simp] theorem State.withInputs_indPair (p : IndPair) : (s.withInputs ports n).indPair p = s.indPair p := by
  cases p <;> rfl
@[simp] theorem State.withInputs_memRead (a : Int) : (s.withInputs ports n).memRead a = s.memRead a := rfl
@[simp] theorem State.withInputs_memRead16 (a : Int) : (s.withInputs ports n).memRead16 a = s.memRead16 a := rfl
@[simp] theorem State.withInputs_src8 (src : Src8) : (s.withInputs ports n).src8 src = s.src8 src := by
  cases src <;> rfl

/-! ### Writing -/

@[simp] theorem State.withInputs_setReg (r : Reg8) (v : Byte) :
    (s.withInputs ports n).setReg r v = (s.setReg r v).withInputs ports n := rfl
@[simp] theorem State.withInputs_setPair (p : RegPair) (v : Word) :
    (s.withInputs ports n).setPair p v = (s.setPair p v).withInputs ports n := rfl
@[simp] theorem State.withInputs_setPair16 (q : Pair16) (v : Word) :
    (s.withInputs ports n).setPair16 q v = (s.setPair16 q v).withInputs ports n := by cases q <;> rfl
@[simp] theorem State.withInputs_setSp (v : Word) :
    (s.withInputs ports n).setSp v = (s.setSp v).withInputs ports n := rfl
@[simp] theorem State.withInputs_setFlags (f : Flags) :
    (s.withInputs ports n).setFlags f = (s.setFlags f).withInputs ports n := rfl
@[simp] theorem State.withInputs_retireTo (w : Word) :
    (s.withInputs ports n).retireTo w = (s.retireTo w).withInputs ports n := rfl
@[simp] theorem State.withInputs_retire (len : Nat) :
    (s.withInputs ports n).retire len = (s.retire len).withInputs ports n := rfl
@[simp] theorem State.withInputs_raiseUnimplemented (op : Byte) :
    (s.withInputs ports n).raiseUnimplemented op = (s.raiseUnimplemented op).withInputs ports n := rfl

@[simp] theorem State.withInputs_memWrite (a : Int) (v : Byte) :
    (s.withInputs ports n).memWrite a v = (s.memWrite a v).map (State.withInputs ports n) := by
  simp only [State.memWrite, State.withInputs_cfg]
  cases checkAddr s.cfg.memSize a <;> rfl

@[simp] theorem State.withInputs_memWrite16 (a : Int) (v : Word) :
    (s.withInputs ports n).memWrite16 a v = (s.memWrite16 a v).map (State.withInputs ports n) := by
  simp only [State.memWrite16, State.withInputs_memWrite]
  cases s.memWrite a (loByte v) with
  | error f => rfl
  | ok t => exact State.withInputs_memWrite t ports n _ _

@[simp] theorem State.withInputs_push16 (v : Word) :
    (s.withInputs ports n).push16 v = (s.push16 v).map (State.withInputs ports n) := by
  simp only [State.push16, State.withInputs_memWrite, State.withInputs_sp]
  cases s.memWrite ((s.sp.toNat : Int) - 1) (hiByte v) with
  | error f => rfl
  | ok t =>
    simp only [Except.map, State.withInputs_memWrite]
    cases t.memWrite ((s.sp.toNat : Int) - 2) (loByte v) <;> rfl

@[simp] theorem State.withInputs_pop16 :
    (s.withInputs ports n).pop16 = s.pop16.map fun r => (r.1, r.2.withInputs ports n) := by
  simp only [State.pop16, State.withInputs_memRead16, State.withInputs_sp]
  cases s.memRead16 s.sp.toNat <;> rfl

/-! ### Outcomes -/

@[simp] theorem outWithInputs_next : outWithInputs ports n (.next s) = .next (s.withInputs ports n) := rfl

theorem andThen_map {α β : Type} (r : Except Fault α) (f : α → β) (k : β → Out) :
    andThen (r.map f) k = andThen r fun v => k (f v) := by
  cases r <;> rfl

theorem outWithInputs_andThen {α : Type} (r : Except Fault α) (k : α → Out) :
    outWithInputs ports n (andThen r k) = andThen r fun v => outWithInputs ports n (k v) := by
  cases r <;> rfl

end Sys2Proof.Machine
end

