-- ==== Sys2Proof/Laws/PerInstr.lean ====
section
/-! SUPPORT. Laws per instruction as syntax. Family `CodeBytes`: the bytes of an instruction are one instruction's bytes,
of the length its opcode byte says (30_encoding.md R70, R71), whatever its operand. -/

namespace Sys2Proof.Laws

/-- The encoder gives one opcode byte and exactly the immediate bytes its length asks for. -/
def CodeBytes.Statement (i : Instr) : Prop := wellFormedBytes opcodeLength (encode i) = true

theorem CodeBytes.nop : CodeBytes.Statement .nop := rfl
theorem CodeBytes.lxiB (w : Word) : CodeBytes.Statement (.lxiB w) := rfl
theorem CodeBytes.staxB : CodeBytes.Statement .staxB := rfl
theorem CodeBytes.inxB : CodeBytes.Statement .inxB := rfl
theorem CodeBytes.inrB : CodeBytes.Statement .inrB := rfl
theorem CodeBytes.dcrB : CodeBytes.Statement .dcrB := rfl
theorem CodeBytes.mviB (v : Byte) : CodeBytes.Statement (.mviB v) := rfl
theorem CodeBytes.rlc : CodeBytes.Statement .rlc := rfl
theorem CodeBytes.undoc08 : CodeBytes.Statement .undoc08 := rfl
theorem CodeBytes.dadB : CodeBytes.Statement .dadB := rfl
theorem CodeBytes.ldaxB : CodeBytes.Statement .ldaxB := rfl
theorem CodeBytes.dcxB : CodeBytes.Statement .dcxB := rfl
theorem CodeBytes.inrC : CodeBytes.Statement .inrC := rfl
theorem CodeBytes.dcrC : CodeBytes.Statement .dcrC := rfl
theorem CodeBytes.mviC (v : Byte) : CodeBytes.Statement (.mviC v) := rfl
theorem CodeBytes.rrc : CodeBytes.Statement .rrc := rfl
theorem CodeBytes.undoc10 : CodeBytes.Statement .undoc10 := rfl
theorem CodeBytes.lxiD (w : Word) : CodeBytes.Statement (.lxiD w) := rfl
theorem CodeBytes.staxD : CodeBytes.Statement .staxD := rfl
theorem CodeBytes.inxD : CodeBytes.Statement .inxD := rfl
theorem CodeBytes.inrD : CodeBytes.Statement .inrD := rfl
theorem CodeBytes.dcrD : CodeBytes.Statement .dcrD := rfl
theorem CodeBytes.mviD (v : Byte) : CodeBytes.Statement (.mviD v) := rfl
theorem CodeBytes.ral : CodeBytes.Statement .ral := rfl
theorem CodeBytes.undoc18 : CodeBytes.Statement .undoc18 := rfl
theorem CodeBytes.dadD : CodeBytes.Statement .dadD := rfl
theorem CodeBytes.ldaxD : CodeBytes.Statement .ldaxD := rfl
theorem CodeBytes.dcxD : CodeBytes.Statement .dcxD := rfl
theorem CodeBytes.inrE : CodeBytes.Statement .inrE := rfl
theorem CodeBytes.dcrE : CodeBytes.Statement .dcrE := rfl
theorem CodeBytes.mviE (v : Byte) : CodeBytes.Statement (.mviE v) := rfl
theorem CodeBytes.rar : CodeBytes.Statement .rar := rfl
theorem CodeBytes.undoc20 : CodeBytes.Statement .undoc20 := rfl
theorem CodeBytes.lxiH (w : Word) : CodeBytes.Statement (.lxiH w) := rfl
theorem CodeBytes.shld (w : Word) : CodeBytes.Statement (.shld w) := rfl
theorem CodeBytes.inxH : CodeBytes.Statement .inxH := rfl
theorem CodeBytes.inrH : CodeBytes.Statement .inrH := rfl
theorem CodeBytes.dcrH : CodeBytes.Statement .dcrH := rfl
theorem CodeBytes.mviH (v : Byte) : CodeBytes.Statement (.mviH v) := rfl
theorem CodeBytes.daa : CodeBytes.Statement .daa := rfl
theorem CodeBytes.undoc28 : CodeBytes.Statement .undoc28 := rfl
theorem CodeBytes.dadH : CodeBytes.Statement .dadH := rfl
theorem CodeBytes.lhld (w : Word) : CodeBytes.Statement (.lhld w) := rfl
theorem CodeBytes.dcxH : CodeBytes.Statement .dcxH := rfl
theorem CodeBytes.inrL : CodeBytes.Statement .inrL := rfl
theorem CodeBytes.dcrL : CodeBytes.Statement .dcrL := rfl
theorem CodeBytes.mviL (v : Byte) : CodeBytes.Statement (.mviL v) := rfl
theorem CodeBytes.cma : CodeBytes.Statement .cma := rfl
theorem CodeBytes.undoc30 : CodeBytes.Statement .undoc30 := rfl
theorem CodeBytes.lxiSP (w : Word) : CodeBytes.Statement (.lxiSP w) := rfl
theorem CodeBytes.sta (w : Word) : CodeBytes.Statement (.sta w) := rfl
theorem CodeBytes.inxSP : CodeBytes.Statement .inxSP := rfl
theorem CodeBytes.inrM : CodeBytes.Statement .inrM := rfl
theorem CodeBytes.dcrM : CodeBytes.Statement .dcrM := rfl
theorem CodeBytes.mviM (v : Byte) : CodeBytes.Statement (.mviM v) := rfl
theorem CodeBytes.stc : CodeBytes.Statement .stc := rfl
theorem CodeBytes.undoc38 : CodeBytes.Statement .undoc38 := rfl
theorem CodeBytes.dadSP : CodeBytes.Statement .dadSP := rfl
theorem CodeBytes.lda (w : Word) : CodeBytes.Statement (.lda w) := rfl
theorem CodeBytes.dcxSP : CodeBytes.Statement .dcxSP := rfl
theorem CodeBytes.inrA : CodeBytes.Statement .inrA := rfl
theorem CodeBytes.dcrA : CodeBytes.Statement .dcrA := rfl
theorem CodeBytes.mviA (v : Byte) : CodeBytes.Statement (.mviA v) := rfl
theorem CodeBytes.cmc : CodeBytes.Statement .cmc := rfl
theorem CodeBytes.movBB : CodeBytes.Statement .movBB := rfl
theorem CodeBytes.movBC : CodeBytes.Statement .movBC := rfl
theorem CodeBytes.movBD : CodeBytes.Statement .movBD := rfl
theorem CodeBytes.movBE : CodeBytes.Statement .movBE := rfl
theorem CodeBytes.movBH : CodeBytes.Statement .movBH := rfl
theorem CodeBytes.movBL : CodeBytes.Statement .movBL := rfl
theorem CodeBytes.movBM : CodeBytes.Statement .movBM := rfl
theorem CodeBytes.movBA : CodeBytes.Statement .movBA := rfl
theorem CodeBytes.movCB : CodeBytes.Statement .movCB := rfl
theorem CodeBytes.movCC : CodeBytes.Statement .movCC := rfl
theorem CodeBytes.movCD : CodeBytes.Statement .movCD := rfl
theorem CodeBytes.movCE : CodeBytes.Statement .movCE := rfl
theorem CodeBytes.movCH : CodeBytes.Statement .movCH := rfl
theorem CodeBytes.movCL : CodeBytes.Statement .movCL := rfl
theorem CodeBytes.movCM : CodeBytes.Statement .movCM := rfl
theorem CodeBytes.movCA : CodeBytes.Statement .movCA := rfl
theorem CodeBytes.movDB : CodeBytes.Statement .movDB := rfl
theorem CodeBytes.movDC : CodeBytes.Statement .movDC := rfl
theorem CodeBytes.movDD : CodeBytes.Statement .movDD := rfl
theorem CodeBytes.movDE : CodeBytes.Statement .movDE := rfl
theorem CodeBytes.movDH : CodeBytes.Statement .movDH := rfl
theorem CodeBytes.movDL : CodeBytes.Statement .movDL := rfl
theorem CodeBytes.movDM : CodeBytes.Statement .movDM := rfl
theorem CodeBytes.movDA : CodeBytes.Statement .movDA := rfl
theorem CodeBytes.movEB : CodeBytes.Statement .movEB := rfl
theorem CodeBytes.movEC : CodeBytes.Statement .movEC := rfl
theorem CodeBytes.movED : CodeBytes.Statement .movED := rfl
theorem CodeBytes.movEE : CodeBytes.Statement .movEE := rfl
theorem CodeBytes.movEH : CodeBytes.Statement .movEH := rfl
theorem CodeBytes.movEL : CodeBytes.Statement .movEL := rfl
theorem CodeBytes.movEM : CodeBytes.Statement .movEM := rfl
theorem CodeBytes.movEA : CodeBytes.Statement .movEA := rfl
theorem CodeBytes.movHB : CodeBytes.Statement .movHB := rfl
theorem CodeBytes.movHC : CodeBytes.Statement .movHC := rfl
theorem CodeBytes.movHD : CodeBytes.Statement .movHD := rfl
theorem CodeBytes.movHE : CodeBytes.Statement .movHE := rfl
theorem CodeBytes.movHH : CodeBytes.Statement .movHH := rfl
theorem CodeBytes.movHL : CodeBytes.Statement .movHL := rfl
theorem CodeBytes.movHM : CodeBytes.Statement .movHM := rfl
theorem CodeBytes.movHA : CodeBytes.Statement .movHA := rfl
theorem CodeBytes.movLB : CodeBytes.Statement .movLB := rfl
theorem CodeBytes.movLC : CodeBytes.Statement .movLC := rfl
theorem CodeBytes.movLD : CodeBytes.Statement .movLD := rfl
theorem CodeBytes.movLE : CodeBytes.Statement .movLE := rfl
theorem CodeBytes.movLH : CodeBytes.Statement .movLH := rfl
theorem CodeBytes.movLL : CodeBytes.Statement .movLL := rfl
theorem CodeBytes.movLM : CodeBytes.Statement .movLM := rfl
theorem CodeBytes.movLA : CodeBytes.Statement .movLA := rfl
theorem CodeBytes.movMB : CodeBytes.Statement .movMB := rfl
theorem CodeBytes.movMC : CodeBytes.Statement .movMC := rfl
theorem CodeBytes.movMD : CodeBytes.Statement .movMD := rfl
theorem CodeBytes.movME : CodeBytes.Statement .movME := rfl
theorem CodeBytes.movMH : CodeBytes.Statement .movMH := rfl
theorem CodeBytes.movML : CodeBytes.Statement .movML := rfl
theorem CodeBytes.hlt : CodeBytes.Statement .hlt := rfl
theorem CodeBytes.movMA : CodeBytes.Statement .movMA := rfl
theorem CodeBytes.movAB : CodeBytes.Statement .movAB := rfl
theorem CodeBytes.movAC : CodeBytes.Statement .movAC := rfl
theorem CodeBytes.movAD : CodeBytes.Statement .movAD := rfl
theorem CodeBytes.movAE : CodeBytes.Statement .movAE := rfl
theorem CodeBytes.movAH : CodeBytes.Statement .movAH := rfl
theorem CodeBytes.movAL : CodeBytes.Statement .movAL := rfl
theorem CodeBytes.movAM : CodeBytes.Statement .movAM := rfl
theorem CodeBytes.movAA : CodeBytes.Statement .movAA := rfl
theorem CodeBytes.addB : CodeBytes.Statement .addB := rfl
theorem CodeBytes.addC : CodeBytes.Statement .addC := rfl
theorem CodeBytes.addD : CodeBytes.Statement .addD := rfl
theorem CodeBytes.addE : CodeBytes.Statement .addE := rfl
theorem CodeBytes.addH : CodeBytes.Statement .addH := rfl
theorem CodeBytes.addL : CodeBytes.Statement .addL := rfl
theorem CodeBytes.addM : CodeBytes.Statement .addM := rfl
theorem CodeBytes.addA : CodeBytes.Statement .addA := rfl
theorem CodeBytes.adcB : CodeBytes.Statement .adcB := rfl
theorem CodeBytes.adcC : CodeBytes.Statement .adcC := rfl
theorem CodeBytes.adcD : CodeBytes.Statement .adcD := rfl
theorem CodeBytes.adcE : CodeBytes.Statement .adcE := rfl
theorem CodeBytes.adcH : CodeBytes.Statement .adcH := rfl
theorem CodeBytes.adcL : CodeBytes.Statement .adcL := rfl
theorem CodeBytes.adcM : CodeBytes.Statement .adcM := rfl
theorem CodeBytes.adcA : CodeBytes.Statement .adcA := rfl
theorem CodeBytes.subB : CodeBytes.Statement .subB := rfl
theorem CodeBytes.subC : CodeBytes.Statement .subC := rfl
theorem CodeBytes.subD : CodeBytes.Statement .subD := rfl
theorem CodeBytes.subE : CodeBytes.Statement .subE := rfl
theorem CodeBytes.subH : CodeBytes.Statement .subH := rfl
theorem CodeBytes.subL : CodeBytes.Statement .subL := rfl
theorem CodeBytes.subM : CodeBytes.Statement .subM := rfl
theorem CodeBytes.subA : CodeBytes.Statement .subA := rfl
theorem CodeBytes.sbbB : CodeBytes.Statement .sbbB := rfl
theorem CodeBytes.sbbC : CodeBytes.Statement .sbbC := rfl
theorem CodeBytes.sbbD : CodeBytes.Statement .sbbD := rfl
theorem CodeBytes.sbbE : CodeBytes.Statement .sbbE := rfl
theorem CodeBytes.sbbH : CodeBytes.Statement .sbbH := rfl
theorem CodeBytes.sbbL : CodeBytes.Statement .sbbL := rfl
theorem CodeBytes.sbbM : CodeBytes.Statement .sbbM := rfl
theorem CodeBytes.sbbA : CodeBytes.Statement .sbbA := rfl
theorem CodeBytes.anaB : CodeBytes.Statement .anaB := rfl
theorem CodeBytes.anaC : CodeBytes.Statement .anaC := rfl
theorem CodeBytes.anaD : CodeBytes.Statement .anaD := rfl
theorem CodeBytes.anaE : CodeBytes.Statement .anaE := rfl
theorem CodeBytes.anaH : CodeBytes.Statement .anaH := rfl
theorem CodeBytes.anaL : CodeBytes.Statement .anaL := rfl
theorem CodeBytes.anaM : CodeBytes.Statement .anaM := rfl
theorem CodeBytes.anaA : CodeBytes.Statement .anaA := rfl
theorem CodeBytes.xraB : CodeBytes.Statement .xraB := rfl
theorem CodeBytes.xraC : CodeBytes.Statement .xraC := rfl
theorem CodeBytes.xraD : CodeBytes.Statement .xraD := rfl
theorem CodeBytes.xraE : CodeBytes.Statement .xraE := rfl
theorem CodeBytes.xraH : CodeBytes.Statement .xraH := rfl
theorem CodeBytes.xraL : CodeBytes.Statement .xraL := rfl
theorem CodeBytes.xraM : CodeBytes.Statement .xraM := rfl
theorem CodeBytes.xraA : CodeBytes.Statement .xraA := rfl
theorem CodeBytes.oraB : CodeBytes.Statement .oraB := rfl
theorem CodeBytes.oraC : CodeBytes.Statement .oraC := rfl
theorem CodeBytes.oraD : CodeBytes.Statement .oraD := rfl
theorem CodeBytes.oraE : CodeBytes.Statement .oraE := rfl
theorem CodeBytes.oraH : CodeBytes.Statement .oraH := rfl
theorem CodeBytes.oraL : CodeBytes.Statement .oraL := rfl
theorem CodeBytes.oraM : CodeBytes.Statement .oraM := rfl
theorem CodeBytes.oraA : CodeBytes.Statement .oraA := rfl
theorem CodeBytes.cmpB : CodeBytes.Statement .cmpB := rfl
theorem CodeBytes.cmpC : CodeBytes.Statement .cmpC := rfl
theorem CodeBytes.cmpD : CodeBytes.Statement .cmpD := rfl
theorem CodeBytes.cmpE : CodeBytes.Statement .cmpE := rfl
theorem CodeBytes.cmpH : CodeBytes.Statement .cmpH := rfl
theorem CodeBytes.cmpL : CodeBytes.Statement .cmpL := rfl
theorem CodeBytes.cmpM : CodeBytes.Statement .cmpM := rfl
theorem CodeBytes.cmpA : CodeBytes.Statement .cmpA := rfl
theorem CodeBytes.rnz : CodeBytes.Statement .rnz := rfl
theorem CodeBytes.popB : CodeBytes.Statement .popB := rfl
theorem CodeBytes.jnz (w : Word) : CodeBytes.Statement (.jnz w) := rfl
theorem CodeBytes.jmp (w : Word) : CodeBytes.Statement (.jmp w) := rfl
theorem CodeBytes.cnz (w : Word) : CodeBytes.Statement (.cnz w) := rfl
theorem CodeBytes.pushB : CodeBytes.Statement .pushB := rfl
theorem CodeBytes.adi (v : Byte) : CodeBytes.Statement (.adi v) := rfl
theorem CodeBytes.rst0 : CodeBytes.Statement .rst0 := rfl
theorem CodeBytes.rz : CodeBytes.Statement .rz := rfl
theorem CodeBytes.ret : CodeBytes.Statement .ret := rfl
theorem CodeBytes.jz (w : Word) : CodeBytes.Statement (.jz w) := rfl
theorem CodeBytes.undocCB : CodeBytes.Statement .undocCB := rfl
theorem CodeBytes.cz (w : Word) : CodeBytes.Statement (.cz w) := rfl
theorem CodeBytes.call (w : Word) : CodeBytes.Statement (.call w) := rfl
theorem CodeBytes.aci (v : Byte) : CodeBytes.Statement (.aci v) := rfl
theorem CodeBytes.rst1 : CodeBytes.Statement .rst1 := rfl
theorem CodeBytes.rnc : CodeBytes.Statement .rnc := rfl
theorem CodeBytes.popD : CodeBytes.Statement .popD := rfl
theorem CodeBytes.jnc (w : Word) : CodeBytes.Statement (.jnc w) := rfl
theorem CodeBytes.outPort (v : Byte) : CodeBytes.Statement (.outPort v) := rfl
theorem CodeBytes.cnc (w : Word) : CodeBytes.Statement (.cnc w) := rfl
theorem CodeBytes.pushD : CodeBytes.Statement .pushD := rfl
theorem CodeBytes.sui (v : Byte) : CodeBytes.Statement (.sui v) := rfl
theorem CodeBytes.rst2 : CodeBytes.Statement .rst2 := rfl
theorem CodeBytes.rc : CodeBytes.Statement .rc := rfl
theorem CodeBytes.undocD9 : CodeBytes.Statement .undocD9 := rfl
theorem CodeBytes.jc (w : Word) : CodeBytes.Statement (.jc w) := rfl
theorem CodeBytes.inPort (v : Byte) : CodeBytes.Statement (.inPort v) := rfl
theorem CodeBytes.cc (w : Word) : CodeBytes.Statement (.cc w) := rfl
theorem CodeBytes.undocDD : CodeBytes.Statement .undocDD := rfl
theorem CodeBytes.sbi (v : Byte) : CodeBytes.Statement (.sbi v) := rfl
theorem CodeBytes.rst3 : CodeBytes.Statement .rst3 := rfl
theorem CodeBytes.rpo : CodeBytes.Statement .rpo := rfl
theorem CodeBytes.popH : CodeBytes.Statement .popH := rfl
theorem CodeBytes.jpo (w : Word) : CodeBytes.Statement (.jpo w) := rfl
theorem CodeBytes.xthl : CodeBytes.Statement .xthl := rfl
theorem CodeBytes.cpo (w : Word) : CodeBytes.Statement (.cpo w) := rfl
theorem CodeBytes.pushH : CodeBytes.Statement .pushH := rfl
theorem CodeBytes.ani (v : Byte) : CodeBytes.Statement (.ani v) := rfl
theorem CodeBytes.rst4 : CodeBytes.Statement .rst4 := rfl
theorem CodeBytes.rpe : CodeBytes.Statement .rpe := rfl
theorem CodeBytes.pchl : CodeBytes.Statement .pchl := rfl
theorem CodeBytes.jpe (w : Word) : CodeBytes.Statement (.jpe w) := rfl
theorem CodeBytes.xchg : CodeBytes.Statement .xchg := rfl
theorem CodeBytes.cpe (w : Word) : CodeBytes.Statement (.cpe w) := rfl
theorem CodeBytes.undocED : CodeBytes.Statement .undocED := rfl
theorem CodeBytes.xri (v : Byte) : CodeBytes.Statement (.xri v) := rfl
theorem CodeBytes.rst5 : CodeBytes.Statement .rst5 := rfl
theorem CodeBytes.rp : CodeBytes.Statement .rp := rfl
theorem CodeBytes.popPSW : CodeBytes.Statement .popPSW := rfl
theorem CodeBytes.jp (w : Word) : CodeBytes.Statement (.jp w) := rfl
theorem CodeBytes.di : CodeBytes.Statement .di := rfl
theorem CodeBytes.cp (w : Word) : CodeBytes.Statement (.cp w) := rfl
theorem CodeBytes.pushPSW : CodeBytes.Statement .pushPSW := rfl
theorem CodeBytes.ori (v : Byte) : CodeBytes.Statement (.ori v) := rfl
theorem CodeBytes.rst6 : CodeBytes.Statement .rst6 := rfl
theorem CodeBytes.rm : CodeBytes.Statement .rm := rfl
theorem CodeBytes.sphl : CodeBytes.Statement .sphl := rfl
theorem CodeBytes.jm (w : Word) : CodeBytes.Statement (.jm w) := rfl
theorem CodeBytes.ei : CodeBytes.Statement .ei := rfl
theorem CodeBytes.cm (w : Word) : CodeBytes.Statement (.cm w) := rfl
theorem CodeBytes.undocFD : CodeBytes.Statement .undocFD := rfl
theorem CodeBytes.cpi (v : Byte) : CodeBytes.Statement (.cpi v) := rfl
theorem CodeBytes.rst7 : CodeBytes.Statement .rst7 := rfl

end Sys2Proof.Laws
end

