-- ==== Sys2Proof/Laws/Terms.lean ====
section
/-! SUPPORT. Small lemmas about the terms of Safety.lean that the claims are written in: what follows from the invariant,
what the shared updates keep, what a push and a pop do in those terms, and the flag and condition terms against the
model's functions. -/

namespace Sys2Proof.Machine

variable {s t : State}

/-! ### The invariant -/

theorem State.Inv.mem_wf (h : s.Inv = true) : Memory.wf s.cfg.memSize s.mem = true := by
  simp only [State.Inv, Bool.and_eq_true] at h
  exact h.1.2

theorem State.Inv.ports_wf (h : s.Inv = true) : PortTable.wf s.inPorts = true := by
  simp only [State.Inv, Bool.and_eq_true] at h
  exact h.2

theorem State.Inv.size (h : s.Inv = true) : 1 ≤ s.cfg.memSize ∧ s.cfg.memSize ≤ 65536 := by
  simp only [State.Inv, Config.wf, Bool.and_eq_true, decide_eq_true_eq] at h
  exact h.1.1

theorem State.Inv.of_parts (hc : t.cfg.wf = true) (hm : Memory.wf t.cfg.memSize t.mem = true)
    (hp : PortTable.wf t.inPorts = true) : t.Inv = true := by
  simp [State.Inv, hc, hm, hp]

/-! ### What is kept -/

theorem keepsRegsBut_of_regs_eq (h : t.regs = s.regs) : KeepsRegsBut [] s t := fun r _ => by simp [State.reg, h]

theorem keepsRegsBut_setReg (s : State) (r : Reg8) (v : Byte) : KeepsRegsBut [r] s (s.setReg r v) := fun j hj =>
  s.reg_setReg_ne v (by simpa using hj)

theorem keepsRegsBut_setPair (s : State) (p : RegPair) (v : Word) :
    KeepsRegsBut [hiReg p, loReg p] s (s.setPair p v) := fun j hj => by
  simp only [List.mem_cons, List.not_mem_nil, or_false, not_or] at hj
  exact s.reg_setPair_ne v hj.1 hj.2

theorem keepsRegsBut_setPair16 (s : State) (q : Pair16) (v : Word) :
    KeepsRegsBut (regsOfPair q) s (s.setPair16 q v) := by
  cases q
  · exact keepsRegsBut_setPair s .bc v
  · exact keepsRegsBut_setPair s .de v
  · exact keepsRegsBut_setPair s .hl v
  · exact fun _ _ => rfl

theorem keepsMemBut_of_mem_eq (h : t.mem = s.mem) : KeepsMemBut [] s t := fun a _ => by rw [h]

theorem keepsMemBut_write {n : Nat} {v : Byte} (h : t.mem = s.mem.write n v) : KeepsMemBut [n] s t := fun a ha => by
  rw [h]
  exact Memory.read_write_ne _ _ (by simpa using ha)

theorem keepsMemBut_write_write {n k : Nat} {v w : Byte} (h : t.mem = (s.mem.write n v).write k w) :
    KeepsMemBut [n, k] s t := fun a ha => by
  simp only [List.mem_cons, List.not_mem_nil, or_false, not_or] at ha
  rw [h, Memory.read_write_ne _ _ ha.2, Memory.read_write_ne _ _ ha.1]

/-! ### Pairs -/

@[simp] theorem State.pair_setPair (s : State) (p : RegPair) (v : Word) : (s.setPair p v).pair p = v := by
  simp [State.pair]

@[simp] theorem State.pair16_setPair16 (s : State) (q : Pair16) (v : Word) : (s.setPair16 q v).pair16 q = v := by
  cases q
  · exact s.pair_setPair .bc v
  · exact s.pair_setPair .de v
  · exact s.pair_setPair .hl v
  · rfl

@[simp] theorem State.pair16_retire (s : State) (q : Pair16) (n : Nat) : (s.retire n).pair16 q = s.pair16 q := by
  cases q <;> rfl

theorem State.setPair16_sp {q : Pair16} (s : State) (v : Word) (h : q ≠ .sp) : (s.setPair16 q v).sp = s.sp := by
  cases q <;> first | rfl | exact absurd rfl h

/-! ### Stack -/

/-- A push that does not fit faults with the address `pushFaultAddr` names. -/
theorem State.push16_not_fits (v : Word) (hi : s.Inv = true) (h : ¬ PushFits s) :
    s.push16 v = .error (.outOfBoundsAccess (pushFaultAddr s)) := by
  have := (State.Inv.size hi).1
  simp only [PushFits] at h
  by_cases h1 : s.sp.toNat = 1
  · rw [pushFaultAddr, if_pos h1]; exact s.push16_low_outside v h1 this
  · rw [pushFaultAddr, if_neg h1]; exact s.push16_high_outside v (by omega)

/-- A pop that does not fit faults with the address `popFaultAddr` names. -/
theorem State.pop16_not_fits (h : ¬ PopFits s) : s.pop16 = .error (.outOfBoundsAccess (popFaultAddr s)) := by
  simp only [PopFits] at h
  by_cases h1 : s.sp.toNat < s.cfg.memSize
  · rw [popFaultAddr, if_pos h1]; exact s.pop16_high_outside (by omega)
  · rw [popFaultAddr, if_neg h1]; exact s.pop16_low_outside (by omega)

/-- The two writes and the new `SP` of a push, in the claims' terms. -/
theorem pushes_of_writes {v : Word} (hi : s.Inv = true) (h : PushFits s)
    (hm : t.mem = (s.mem.write (s.sp.toNat - 1) (hiByte v)).write (s.sp.toNat - 2) (loByte v))
    (hs : t.sp = s.sp - 2) : Pushes v s t := by
  simp only [PushFits] at h
  refine ⟨?_, ?_, keepsMemBut_write_write hm, hs⟩
  · rw [hm, Memory.read_write_ne _ _ (by omega), Memory.read_write_same (State.Inv.mem_wf hi)]
  · rw [hm, Memory.read_write_same (Memory.write_wf (State.Inv.mem_wf hi) _ (by omega))]

/-- After a push, a pop fits, finds the value pushed, and its new `SP` is the old one. -/
theorem pop_after_push {v : Word} (h : PushFits s) (hp : Pushes v s t) (hc : t.cfg = s.cfg) :
    PopFits t ∧ joinBytes (t.mem.read (t.sp.toNat + 1)) (t.mem.read t.sp.toNat) = v ∧ t.sp + 2 = s.sp := by
  obtain ⟨h1, h2, -, h4⟩ := hp
  simp only [PushFits] at h
  have e : t.sp.toNat = s.sp.toNat - 2 := by rw [h4]; bv_omega
  refine ⟨?_, ?_, ?_⟩
  · rw [PopFits, hc]; omega
  · rw [e, show s.sp.toNat - 2 + 1 = s.sp.toNat - 1 by omega, h1, h2, joinBytes_hi_lo]
  · rw [h4]; bv_omega

/-! ### Flags, conditions, operands -/

theorem parity_iff_evenOnes (v : Byte) : parity v = true ↔ EvenOnes v := by
  unfold EvenOnes
  revert v
  decide

/-- The flags `set_ZSP` writes are those of the result. -/
theorem zspOf_setZSP (f : Flags) (v : Byte) : ZspOf v (f.setZSP v) := by
  refine ⟨by simp [BitVec.toNat_eq], ?_, by simpa using parity_iff_evenOnes v⟩
  rw [Flags.setZSP_s]
  revert v
  decide

theorem condHolds_iff (code : Cond) (f : Flags) : condHolds code f = true ↔ CondTrue code f := by
  cases code <;> simp [condHolds, CondTrue]

theorem HasOperand.src8_eq {src : Src8} {v : Byte} (h : HasOperand s src v) : s.src8 src = .ok v := by
  cases src with
  | reg r => exact congrArg _ h
  | m => exact (s.memRead_nat h.1).trans (congrArg _ h.2)
  | imm w => exact congrArg _ h

end Sys2Proof.Machine
end

