-- ==== Sys2Proof/Laws/Stores.lean ====
section
/-! SUPPORT. Where the rows named by their fields store, and that the three writing operations store exactly there. -/

namespace Sys2Proof.Machine

variable (s : State)

theorem storeAddrs_movToM (r : Reg8) : storeAddrs (Instr.movToM r) s = [s.hl.toNat] := by cases r <;> rfl
theorem storeAddrs_stax (p : IndPair) : storeAddrs (Instr.stax p) s = [(s.indPair p).toNat] := by cases p <;> rfl
theorem storeAddrs_push (p : RegPair) : storeAddrs (Instr.push p) s = s.pushAddrs := by cases p <;> rfl
theorem storeAddrs_ccc (code : Cond) (w : Word) : storeAddrs (Instr.ccc code w) s = s.callAddrsIf code := by
  cases code <;> rfl
theorem storeAddrs_mov (dst src : Reg8) : storeAddrs (Instr.mov dst src) s = [] := by cases dst <;> cases src <;> rfl
theorem storeAddrs_movFromM (r : Reg8) : storeAddrs (Instr.movFromM r) s = [] := by cases r <;> rfl
theorem storeAddrs_mvi (r : Reg8) (v : Byte) : storeAddrs (Instr.mvi r v) s = [] := by cases r <;> rfl
theorem storeAddrs_inr (r : Reg8) : storeAddrs (Instr.inr r) s = [] := by cases r <;> rfl
theorem storeAddrs_dcr (r : Reg8) : storeAddrs (Instr.dcr r) s = [] := by cases r <;> rfl
theorem storeAddrs_lxi (q : Pair16) (w : Word) : storeAddrs (Instr.lxi q w) s = [] := by cases q <;> rfl
theorem storeAddrs_inx (q : Pair16) : storeAddrs (Instr.inx q) s = [] := by cases q <;> rfl
theorem storeAddrs_dcx (q : Pair16) : storeAddrs (Instr.dcx q) s = [] := by cases q <;> rfl
theorem storeAddrs_dad (q : Pair16) : storeAddrs (Instr.dad q) s = [] := by cases q <;> rfl
theorem storeAddrs_ldax (p : IndPair) : storeAddrs (Instr.ldax p) s = [] := by cases p <;> rfl
theorem storeAddrs_pop (p : RegPair) : storeAddrs (Instr.pop p) s = [] := by cases p <;> rfl
theorem storeAddrs_jcc (code : Cond) (w : Word) : storeAddrs (Instr.jcc code w) s = [] := by cases code <;> rfl
theorem storeAddrs_rcc (code : Cond) : storeAddrs (Instr.rcc code) s = [] := by cases code <;> rfl

theorem storeAddrs_alu (op : AluOp) (src : Src8) : storeAddrs (Instr.alu op src) s = [] := by
  rcases src with r | _ | v
  · cases op <;> cases r <;> rfl
  · cases op <;> rfl
  · cases op <;> rfl

theorem storeAddrs_rst (n : Fin 8) : storeAddrs (Instr.rst n) s = s.pushAddrs := by
  match n with
  | 0 => rfl
  | 1 => rfl
  | 2 => rfl
  | 3 => rfl
  | 4 => rfl
  | 5 => rfl
  | 6 => rfl
  | 7 => rfl

/-- Going from `s` to `t` stored at most to `addrs`: at most two addresses, all inside memory, every other byte as
before. -/
structure StoresAt (addrs : List Nat) (s t : State) : Prop where
  length : addrs.length ≤ 2
  inside : ∀ a ∈ addrs, a < s.cfg.memSize
  keeps : KeepsMemBut addrs s t

variable {s} {t u : State}

theorem StoresAt.none (h : t.mem = s.mem) : StoresAt [] s t :=
  ⟨by simp, by simp, keepsMemBut_of_mem_eq h⟩

/-- What follows a store and touches no memory changes nothing of it. -/
theorem StoresAt.andKeep {addrs : List Nat} (h : StoresAt addrs s u) (hm : t.mem = u.mem) : StoresAt addrs s t :=
  ⟨h.length, h.inside, fun a ha => by rw [hm]; exact h.keeps a ha⟩

/-- A successful write of one byte. -/
theorem State.memWrite_storesAt {a : Nat} {v : Byte} (h : s.memWrite a v = .ok t) : StoresAt [a] s t := by
  obtain ⟨-, h1, rfl⟩ := State.memWrite_ok h
  exact ⟨by simp, by simpa using h1, keepsMemBut_write rfl⟩

/-- A successful write of two bytes. -/
theorem State.memWrite16_storesAt {a : Nat} {v : Word} (h : s.memWrite16 a v = .ok t) : StoresAt [a, a + 1] s t := by
  obtain ⟨h1, rfl⟩ := State.memWrite16_ok h
  exact ⟨by simp, by simp; omega, keepsMemBut_write_write rfl⟩

/-- A successful push. -/
theorem State.push16_storesAt {v : Word} (h : s.push16 v = .ok t) : StoresAt s.pushAddrs s t := by
  obtain ⟨h1, h2, rfl⟩ := State.push16_ok h
  exact ⟨by simp [State.pushAddrs], by simp [State.pushAddrs]; omega, keepsMemBut_write_write rfl⟩

end Sys2Proof.Machine
end

