-- ==== Sys2Proof/Tests/Slice0.lean ====
section
/-! SUPPORT. Tests on one step of a small state, expected results from the spec (95_test_vectors.md unless another file is
named); the checks of WellFormed refusing ill-formed terms; and, for every statement with hypotheses, a witness that
meets them, per clause and at the ends of its ranges. -/

namespace Sys2Proof.Tests

open Sys2Proof.Machine

/-- The start state of the vectors: everything 0, `PC` = 0100. -/
def base : State := { State.reset with pc := 0x0100 }

/-- `base` with a memory of 0400 bytes. -/
def small : State := { base with cfg := { memSize := 0x0400, undocPolicy := .fault } }

/-- `base` under the policy `alias`. -/
def aliasing : State := { base with cfg := { memSize := 65536, undocPolicy := .aliased } }

/-- `s` with bytes at `PC`. -/
def put (s : State) (bytes : List Byte) : State :=
  { s with mem := placeBytes s.cfg.memSize s.mem s.pc.toNat bytes }

/-- `s` with one byte of memory set. -/
def poke (s : State) (a : Nat) (v : Byte) : State := { s with mem := s.mem.write a v }

/-- `s` with `A` and `CY` set. -/
def withA (a : Byte) (cy : Bool) : State := (base.setReg .a a).setFlags { base.flags with cy := cy }

/-- What one step of `s` leaves, as `f` sees it. -/
def after {α : Type} (s : State) (f : State → α) : Option α :=
  match step s with
  | .next t => some (f t)
  | .fault _ => none
  | .refused _ => none

/-- The fault one step of `s` ends in. -/
def faultOf (s : State) : Option Fault :=
  match step s with
  | .next _ => none
  | .fault f => some f
  | .refused _ => none

/-- What an interrupt request leaves, as `f` sees it. -/
def requested {α : Type} (vector : Int) (s : State) (f : State → α) : Option α :=
  match requestInterrupt vector s with
  | .next t => some (f t)
  | .fault _ => none
  | .refused _ => none

/-- `A` and the flags, in the order Z S P CY AC of the vectors. -/
def aFlags (t : State) : Byte × Flags := (t.reg .a, t.flags)

/-- `A` and `CY`. -/
def aCy (t : State) : Byte × Bool := (t.reg .a, t.flags.cy)

/-! ## WellFormed refuses -/

theorem test_wf_memSize_zero : Config.wf { memSize := 0, undocPolicy := .fault } = false := by decide
theorem test_wf_memSize_too_big : Config.wf { memSize := 65537, undocPolicy := .fault } = false := by decide
theorem test_wf_memSize_ends : Config.wf { memSize := 1, undocPolicy := .fault } = true ∧
    Config.wf { memSize := 65536, undocPolicy := .aliased } = true := by decide
theorem test_wf_no_byte : wellFormedBytes opcodeLength [] = false := by decide
theorem test_wf_truncated : wellFormedBytes opcodeLength [0x3A, 0x00] = false := by decide
theorem test_wf_overlong : wellFormedBytes opcodeLength [0x00, 0x00] = false := by decide
theorem test_wf_memory_not_rising : Memory.wf 65536 [(5, 1), (5, 2)] = false := by decide
theorem test_wf_memory_blank_cell : Memory.wf 65536 [(5, 0)] = false := by decide
theorem test_wf_memory_outside : Memory.wf 0x0400 [(0x0400, 1)] = false := by decide
theorem test_wf_ports_outside : PortTable.wf [(256, 1)] = false := by decide

/-! ## Decoding: words written out from the patterns of 30_encoding.md R80 -/

theorem test_decode_nop : decode [0b00000000] = .ok (.nop, []) := by decide
theorem test_decode_lxi : decode [0b00010001, 0x34, 0x12] = .ok (.lxiD 0x1234, []) := by decide
theorem test_decode_stax : decode [0b00010010] = .ok (.staxD, []) := by decide
theorem test_decode_ldax : decode [0b00001010] = .ok (.ldaxB, []) := by decide
theorem test_decode_shld : decode [0b00100010, 0x0A, 0x01] = .ok (.shld 0x010A, []) := by decide
theorem test_decode_lhld : decode [0b00101010, 0xFE, 0xFF] = .ok (.lhld 0xFFFE, []) := by decide
theorem test_decode_lda : decode [0b00111010, 0x00, 0x03] = .ok (.lda 0x0300, []) := by decide
theorem test_decode_inx : decode [0b00110011] = .ok (.inxSP, []) := by decide
theorem test_decode_dcx : decode [0b00101011] = .ok (.dcxH, []) := by decide
theorem test_decode_inr : decode [0b00111100] = .ok (.inrA, []) := by decide
theorem test_decode_inr_m : decode [0b00110100] = .ok (.inrM, []) := by decide
theorem test_decode_dcr : decode [0b00001101] = .ok (.dcrC, []) := by decide
theorem test_decode_mvi : decode [0b00111110, 0x05] = .ok (.mviA 0x05, []) := by decide
theorem test_decode_dad : decode [0b00101001] = .ok (.dadH, []) := by decide
theorem test_decode_rotates : decode [0b00000111] = .ok (.rlc, []) ∧ decode [0b00001111] = .ok (.rrc, []) ∧
    decode [0b00010111] = .ok (.ral, []) := by decide
theorem test_decode_mov_to_m : decode [0b01110101] = .ok (.movML, []) := by decide
theorem test_decode_hlt_is_no_mov : decode [0b01110110] = .ok (.hlt, []) := by decide
theorem test_decode_alu : decode [0b10001001] = .ok (.adcC, []) ∧ decode [0b10011110] = .ok (.sbbM, []) ∧
    decode [0b10111111] = .ok (.cmpA, []) := by decide
theorem test_decode_alu_imm : decode [0b11101110, 0x5A] = .ok (.xri 0x5A, []) := by decide
theorem test_decode_pop : decode [0b11100001] = .ok (.popH, []) ∧ decode [0b11110001] = .ok (.popPSW, []) := by decide
theorem test_decode_push : decode [0b11000101] = .ok (.pushB, []) := by decide
theorem test_decode_jcc : decode [0b11101010, 0x00, 0x30] = .ok (.jpe 0x3000, []) := by decide
theorem test_decode_ccc : decode [0b11111100, 0x00, 0x30] = .ok (.cm 0x3000, []) := by decide
theorem test_decode_rcc : decode [0b11010000] = .ok (.rnc, []) := by decide
theorem test_decode_rst : decode [0b11101111] = .ok (.rst5, []) := by decide
theorem test_decode_io : decode [0b11011011, 0x01] = .ok (.inPort 0x01, []) := by decide
theorem test_decode_undocumented : decode [0b11111101, 0x00, 0x30] = .ok (.undocFD, [0x00, 0x30]) := by decide
theorem test_decode_truncated : decode [0xCD, 0x34] = .error (.truncated 0xCD) ∧ decode [] = .error .noOpcode := by
  decide
theorem test_table_word : decodeTableWord 24 0x1234CD = some (.call 0x1234) ∧
    decodeTableWord 8 0x76 = some .hlt := by decide
theorem test_fetch_word : after (State.reset.withFetchWord 16 0x053E) (fun t => t.reg .a) = some 0x05 := by decide

/-! ## Data transfer (section 2.1) -/

theorem test_mov_b_c : after (put ((base.setReg .b 0x12).setReg .c 0x34) [0x41]) (fun t => (t.reg .b, t.reg .c)) =
    some (0x34, 0x34) := by decide
theorem test_mov_h_l : after (put ((base.setReg .h 0x12).setReg .l 0x34) [0x65]) (fun t => t.hl) =
    some 0x3434 := by decide
theorem test_mov_a_m_own_address : after (put (base.setPair .hl 0x0100) [0x7E]) (fun t => t.reg .a) =
    some 0x7E := by decide
theorem test_mov_a_m_outside : faultOf (put (small.setPair .hl 0x0400) [0x7E]) =
    some (.outOfBoundsAccess 0x0400) := by decide
theorem test_mov_m_a : after (put ((base.setPair .hl 0x0100).setReg .a 0x76) [0x77])
    (fun t => (t.mem.read 0x0100, t.pc)) = some (0x76, 0x0101) := by decide
theorem test_mvi_m : after (put (base.setPair .hl 0x3000) [0x36, 0xFF]) (fun t => (t.mem.read 0x3000, t.pc)) =
    some (0xFF, 0x0102) := by decide
theorem test_lxi_b : after (put base [0x01, 0x34, 0x12]) (fun t => (t.reg .b, t.reg .c, t.pc)) =
    some (0x12, 0x34, 0x0103) := by decide
theorem test_lxi_sp : after (put base [0x31, 0xFE, 0xFF]) (fun t => t.sp) = some 0xFFFE := by decide
theorem test_lda : after (put (poke base 0x0300 0x5A) [0x3A, 0x00, 0x03]) (fun t => t.reg .a) = some 0x5A := by decide
theorem test_sta_top : after (put (base.setReg .a 0x99) [0x32, 0xFF, 0xFF]) (fun t => t.mem.read 0xFFFF) =
    some 0x99 := by decide
theorem test_lhld : after (put (poke (poke base 0xFFFE 0xAA) 0xFFFF 0xBB) [0x2A, 0xFE, 0xFF])
    (fun t => (t.reg .l, t.reg .h)) = some (0xAA, 0xBB) := by decide
theorem test_lhld_outside : faultOf (put base [0x2A, 0xFF, 0xFF]) = some (.outOfBoundsAccess 0x10000) := by decide
theorem test_shld : after (put (base.setPair .hl 0xAE29) [0x22, 0x0A, 0x01])
    (fun t => (t.mem.read 0x010A, t.mem.read 0x010B)) = some (0x29, 0xAE) := by decide
theorem test_shld_outside : faultOf (put (base.setPair .hl 0x1234) [0x22, 0xFF, 0xFF]) =
    some (.outOfBoundsAccess 0x10000) := by decide
theorem test_ldax_d : after (put (poke (base.setPair .de 0x938B) 0x938B 0x42) [0x1A]) (fun t => t.reg .a) =
    some 0x42 := by decide
theorem test_stax_b : after (put ((base.setPair .bc 0x3F16).setReg .a 0x80) [0x02]) (fun t => t.mem.read 0x3F16) =
    some 0x80 := by decide
theorem test_xchg : after (put ((base.setPair .hl 0x00FF).setPair .de 0x3355) [0xEB])
    (fun t => (t.pair .hl, t.pair .de)) = some (0x3355, 0x00FF) := by decide

/-! ## Arithmetic (sections 2.2 to 2.4) -/

theorem test_add_wraps : after (put ((withA 0xFF false).setReg .b 0x01) [0x80]) aFlags =
    some (0x00, ⟨true, false, true, true, true⟩) := by decide
theorem test_add_a_doubles : after (put (withA 0x80 false) [0x87]) aFlags =
    some (0x00, ⟨true, false, true, true, false⟩) := by decide
theorem test_adi_half_carry : after (put (withA 0x2E true) [0xC6, 0x6C]) aFlags =
    some (0x9A, ⟨false, true, true, false, true⟩) := by decide
theorem test_aci_carry_in : after (put (withA 0xFF true) [0xCE, 0x00]) aFlags =
    some (0x00, ⟨true, false, true, true, true⟩) := by decide
theorem test_adc_c : after (put ((withA 0x42 true).setReg .c 0x3D) [0x89]) aFlags =
    some (0x80, ⟨false, true, false, false, true⟩) := by decide
theorem test_sui : after (put (withA 0x80 false) [0xD6, 0x01]) aFlags =
    some (0x7F, ⟨false, false, false, false, false⟩) := by decide
theorem test_sub_borrow : after (put ((withA 0x00 false).setReg .d 0x01) [0x92]) aFlags =
    some (0xFF, ⟨false, true, true, true, false⟩) := by decide
theorem test_sbi_borrow_in : after (put (withA 0x00 true) [0xDE, 0xFF]) aFlags =
    some (0x00, ⟨true, false, true, true, false⟩) := by decide
theorem test_sbb_e : after (put ((withA 0x04 true).setReg .e 0x02) [0x9B]) aFlags =
    some (0x01, ⟨false, false, false, false, true⟩) := by decide
theorem test_cmp_m : after (put (poke ((withA 0x02 false).setPair .hl 0x2000) 0x2000 0x05) [0xBE]) aFlags =
    some (0x02, ⟨false, true, false, true, false⟩) := by decide
theorem test_cpi_equal : after (put (withA 0x05 false) [0xFE, 0x05]) aFlags =
    some (0x05, ⟨true, false, true, false, true⟩) := by decide
theorem test_inr_keeps_carry : after (put ((withA 0x00 true).setReg .b 0xFF) [0x04]) (fun t => (t.reg .b, t.flags)) =
    some (0x00, ⟨true, false, true, true, true⟩) := by decide
theorem test_inr_m : after (put (poke (base.setPair .hl 0x3A7C) 0x3A7C 0x0F) [0x34])
    (fun t => (t.mem.read 0x3A7C, t.flags)) = some (0x10, ⟨false, false, false, false, true⟩) := by decide
theorem test_dcr_wraps : after (put base [0x05]) (fun t => (t.reg .b, t.flags)) =
    some (0xFF, ⟨false, true, true, false, false⟩) := by decide
theorem test_dcr_m : after (put (poke (base.setPair .hl 0x3A7C) 0x3A7C 0x40) [0x35])
    (fun t => (t.mem.read 0x3A7C, t.flags)) = some (0x3F, ⟨false, false, true, false, false⟩) := by decide
theorem test_inx_wraps : after (put (base.setPair .bc 0xFFFF) [0x03]) (fun t => (t.pair .bc, t.flags.z)) =
    some (0x0000, false) := by decide
theorem test_dcx_sp_wraps : after (put base [0x3B]) (fun t => t.sp) = some 0xFFFF := by decide
theorem test_dad_b : after (put ((base.setPair .hl 0xA17B).setPair .bc 0x339F) [0x09])
    (fun t => (t.hl, t.flags.cy)) = some (0xD51A, false) := by decide
theorem test_dad_sp : after (put ((base.setPair .hl 0x1234).setSp 0xF000) [0x39])
    (fun t => (t.hl, t.flags.cy, t.sp)) = some (0x0234, true, 0xF000) := by decide
theorem test_daa_9b : after (put (withA 0x9B false) [0x27]) aFlags =
    some (0x01, ⟨false, false, false, true, true⟩) := by decide
theorem test_daa_after_carry : after (put (withA 0x12 true) [0x27]) aFlags =
    some (0x72, ⟨false, false, true, true, false⟩) := by decide

/-! ## Logic and rotates (sections 2.5, 2.6) -/

theorem test_ani_aux_carry : after (put (withA 0xF7 false) [0xE6, 0x07]) aFlags =
    some (0x07, ⟨false, false, false, false, false⟩) := by decide
theorem test_ana_b : after (put ((withA 0xFC true).setReg .b 0x0F) [0xA0]) aFlags =
    some (0x0C, ⟨false, false, true, false, true⟩) := by decide
theorem test_xri : after (put (withA 0x5C true) [0xEE, 0x78]) aFlags =
    some (0x24, ⟨false, false, true, false, false⟩) := by decide
theorem test_xra_a : after (put (withA 0x5A true) [0xAF]) aFlags =
    some (0x00, ⟨true, false, true, false, false⟩) := by decide
theorem test_ori : after (put (withA 0x33 true) [0xF6, 0x0F]) aFlags =
    some (0x3F, ⟨false, false, true, false, false⟩) := by decide
theorem test_ora_a : after (put (withA 0x80 true) [0xB7]) aFlags =
    some (0x80, ⟨false, true, false, false, false⟩) := by decide
theorem test_cma : after (put (withA 0x51 false) [0x2F]) aFlags = some (0xAE, base.flags) := by decide
theorem test_cmc : after (put (withA 0x00 true) [0x3F]) aCy = some (0x00, false) := by decide
theorem test_stc : after (put (withA 0x00 false) [0x37]) aCy = some (0x00, true) := by decide
theorem test_rlc : after (put (withA 0xF2 false) [0x07]) aCy = some (0xE5, true) := by decide
theorem test_rrc : after (put (withA 0xB5 false) [0x0F]) aCy = some (0xDA, true) := by decide
theorem test_ral : after (put (withA 0x6A true) [0x17]) aCy = some (0xD5, false) := by decide
theorem test_rar : after (put (withA 0x6A true) [0x1F]) aCy = some (0xB5, false) := by decide

/-! ## Stack and control transfer (sections 1, 2.7, 2.8) -/

theorem test_push_d : after (put ((base.setPair .de 0x8F9D).setSp 0x3A2C) [0xD5])
    (fun t => (t.mem.read 0x3A2B, t.mem.read 0x3A2A, t.sp)) = some (0x8F, 0x9D, 0x3A2A) := by decide
theorem test_push_outside : faultOf (put (base.setSp 0x0001) [0xC5]) = some (.outOfBoundsAccess (-1)) := by decide
theorem test_push_psw : after (put ((base.setReg .a 0x1F).setFlags ⟨true, false, true, true, false⟩ |>.setSp 0x502A)
    [0xF5]) (fun t => (t.mem.read 0x5029, t.mem.read 0x5028, t.sp)) = some (0x1F, 0x47, 0x5028) := by decide
theorem test_pop_b : after (put (poke (poke (base.setSp 0xFFFE) 0xFFFE 0x11) 0xFFFF 0x22) [0xC1])
    (fun t => (t.reg .c, t.reg .b, t.sp)) = some (0x11, 0x22, 0x0000) := by decide
theorem test_pop_outside : faultOf (put (base.setSp 0xFFFF) [0xE1]) = some (.outOfBoundsAccess 0x10000) := by decide
theorem test_pop_psw : after (put (poke (poke (base.setSp 0x2C00) 0x2C00 0xC3) 0x2C01 0xFF) [0xF1]) aFlags =
    some (0xFF, ⟨true, true, false, true, false⟩) := by decide
theorem test_xthl : after (put (poke (poke ((base.setSp 0x10AD).setPair .hl 0x0B3C) 0x10AD 0xF0) 0x10AE 0x0D) [0xE3])
    (fun t => (t.hl, t.mem.read 0x10AD, t.mem.read 0x10AE, t.sp)) = some (0x0DF0, 0x3C, 0x0B, 0x10AD) := by decide
theorem test_sphl : after (put (base.setPair .hl 0x506C) [0xF9]) (fun t => t.sp) = some 0x506C := by decide
theorem test_jmp : after (put base [0xC3, 0x00, 0x3E]) (fun t => t.pc) = some 0x3E00 := by decide
theorem test_pchl : after (put (base.setPair .hl 0x413E) [0xE9]) (fun t => t.pc) = some 0x413E := by decide
theorem test_jz_not_taken : after (put base [0xCA, 0x00, 0x30]) (fun t => t.pc) = some 0x0103 := by decide
theorem test_jm_taken : after (put (base.setFlags ⟨false, true, false, false, false⟩) [0xFA, 0x00, 0x30])
    (fun t => t.pc) = some 0x3000 := by decide
theorem test_call : after (put { base with pc := 0x0000, sp := 0x2000 } [0xCD, 0x34, 0x12])
    (fun t => (t.mem.read 0x1FFF, t.mem.read 0x1FFE, t.sp, t.pc)) = some (0x00, 0x03, 0x1FFE, 0x1234) := by decide
theorem test_call_return_address_wraps : after (put { base with pc := 0xFFFD, sp := 0x2000 } [0xCD, 0x00, 0x30])
    (fun t => (t.mem.read 0x1FFF, t.mem.read 0x1FFE, t.pc)) = some (0x00, 0x00, 0x3000) := by decide
theorem test_cnz_not_taken_no_stack : after (put (base.setFlags ⟨true, false, false, false, false⟩) [0xC4, 0x00, 0x30])
    (fun t => (t.pc, t.sp)) = some (0x0103, 0x0000) := by decide
theorem test_cpo_taken : after (put (base.setSp 0x2400) [0xE4, 0x00, 0x30])
    (fun t => (t.mem.read 0x23FF, t.mem.read 0x23FE, t.pc)) = some (0x01, 0x03, 0x3000) := by decide
theorem test_ret_outside : faultOf (put (base.setSp 0xFFFF) [0xC9]) = some (.outOfBoundsAccess 0x10000) := by decide
theorem test_rp_taken : after (put (poke (poke (base.setSp 0x23FE) 0x23FE 0x78) 0x23FF 0x56) [0xF0])
    (fun t => (t.pc, t.sp)) = some (0x5678, 0x2400) := by decide
theorem test_rst_6 : after (put { base with pc := 0x1234, sp := 0x2000 } [0xF7])
    (fun t => (t.mem.read 0x1FFF, t.mem.read 0x1FFE, t.pc)) = some (0x12, 0x35, 0x0030) := by decide
theorem test_jnz_fetches_when_not_taken :
    faultOf (put { base with pc := 0xFFFE, flags := ⟨true, false, false, false, false⟩ } [0xC2, 0x00]) =
    some (.outOfBoundsAccess 0x10000) := by decide

/-! ## Input, output, machine control, interrupts (sections 2.9 to 2.11) -/

theorem test_in : after (put (base.setInput 0x01 0x5A) [0xDB, 0x01]) (fun t => (t.reg .a, t.pc)) =
    some (0x5A, 0x0102) := by decide
theorem test_out : after (put (base.setReg .a 0x41) [0xD3, 0x10]) (fun t => (t.outputs, t.pc)) =
    some ([⟨0x10, 0x41⟩], 0x0102) := by decide
theorem test_ei_not_inverted : after (put { base with inte := true } [0xFB]) (fun t => t.inte) = some true := by decide
theorem test_di : after (put { base with inte := true } [0xF3]) (fun t => t.inte) = some false := by decide
theorem test_nop_wraps : after (put { base with pc := 0xFFFF } [0x00]) (fun t => (t.pc, t.icount)) =
    some (0x0000, 1) := by decide
theorem test_hlt : after (put { base with pc := 0x0004, icount := 2 } [0x76])
    (fun t => (t.halted, t.pc, t.icount, t.result)) = some (true, 0x0005, 3, .ok) := by decide
theorem test_halted_step : after (put { base with halted := true } [0x3C]) (fun t => (t.reg .a, t.icount, t.result)) =
    some (0x00, 0, .halted) := by decide
theorem test_undocumented_fault : after (put { base with icount := 7 } [0x08])
    (fun t => (t.result, t.halted, t.pc, t.icount)) = some (.unimplementedOpcode 0x0100 0x08, true, 0x0100, 8) := by
  decide
theorem test_undocumented_nop : after (put aliasing [0x08]) (fun t => (t.pc, t.icount)) = some (0x0101, 1) := by decide
theorem test_undocumented_jmp : after (put aliasing [0xCB, 0x00, 0x30]) (fun t => t.pc) = some 0x3000 := by decide
theorem test_undocumented_call : after (put (aliasing.setSp 0x2400) [0xED, 0x00, 0x30])
    (fun t => (t.mem.read 0x23FF, t.mem.read 0x23FE, t.pc)) = some (0x01, 0x03, 0x3000) := by decide
theorem test_request_taken : requested 2 { base with pc := 0x0123, sp := 0x2000, inte := true, icount := 9 }
    (fun t => (t.mem.read 0x1FFF, t.mem.read 0x1FFE, t.sp, t.pc, t.inte, t.icount)) =
    some (0x01, 0x23, 0x1FFE, 0x0010, false, 9) := by decide
theorem test_request_dropped : requested 2 { base with sp := 0x2000 } (fun t => (t.pc, t.sp, t.result)) =
    some (0x0100, 0x2000, .dropped) := by decide
theorem test_request_halted : requested 1 { base with pc := 0x0005, sp := 0x2400, inte := true, halted := true }
    (fun t => (t.pc, t.halted, t.inte)) = some (0x0008, true, false) := by decide

/-! ## Numbers of the faults and the constants of parity (60_exceptions.md R241, section 1 S8, S10) -/

theorem test_fault_codes : Fault.code (.outOfBoundsAccess 0) = 2 ∧ Fault.code (.invalidInterruptVector 8) = 3 ∧
    StepResult.faultCode (.unimplementedOpcode 0 0x08) = 1 := by decide
theorem test_parity : parity 0x00 = true ∧ parity 0xFF = true ∧ parity 0x01 = false ∧ parity 0x7F = false := by decide
theorem test_flag_byte : flagByte ⟨false, false, false, false, false⟩ = 0x02 ∧
    flagByte ⟨true, true, true, true, true⟩ = 0xD7 ∧ flagByte ⟨false, false, false, false, true⟩ = 0x12 := by decide

/-! ## Witnesses: states and operands that meet the hypotheses of each statement, clause by clause -/

/-- `small` with `SP` set: memory has 0400 bytes. -/
def smallSp (sp : Word) : State := { small with sp := sp, inte := true }

/-- `small` with `PC` set. -/
def smallPc (pc : Word) : State := { small with pc := pc }

/-- `small` with every pair set. -/
def smallPairs (v : Word) : State := (((small.setPair .bc v).setPair .de v).setPair .hl v).setReg .a 0x9A

/-- The clauses of `HasCode`, in every statement it stands in, for every instruction `i`: the bytes of `i` at 0000 of a
memory of `n` bytes. With `n` at least the length all of them are inside; with `n` = `k` the byte `k` is the first
outside. -/
theorem witness_HasCode (i : Instr) (n : Nat) :
    let s : State := { State.reset with
      cfg := { memSize := n, undocPolicy := .fault }, mem := placeBytes n [] 0 (encode i) }
    s.halted = false ∧ s.pc.toNat = 0 ∧ s.cfg.memSize = n ∧
      ∀ k : Nat, k < (encode i).length → s.pc.toNat + k < s.cfg.memSize →
        s.mem.read (s.pc.toNat + k) = (encode i).getD k 0 :=
  ⟨rfl, rfl, rfl, fun _ hk hn => placeBytes_read (encode i) (Memory.wf_nil n) (a := 0) hk hn⟩

/-- The clause of `HasCode` for an opcode byte outside memory: nothing stands at `PC`, whatever `bytes` is. -/
theorem witness_HasCode_outside (bytes : List Byte) : (smallPc 0x0400).halted = false ∧
    (smallPc 0x0400).cfg.memSize ≤ (smallPc 0x0400).pc.toNat ∧
    ∀ k : Nat, k < bytes.length → (smallPc 0x0400).pc.toNat + k < (smallPc 0x0400).cfg.memSize →
      (smallPc 0x0400).mem.read ((smallPc 0x0400).pc.toNat + k) = bytes.getD k 0 := by
  refine ⟨by decide, by decide, fun k _ h => absurd h ?_⟩
  have : (smallPc 0x0400).pc.toNat = 0x0400 := by decide
  have : (smallPc 0x0400).cfg.memSize = 0x0400 := by decide
  omega

theorem witness_DecodedBytesAreTheEncoding : decode [0x3A, 0x00, 0x03, 0xFF] = .ok (.lda 0x0300, [0xFF]) := by decide

/-- Clause 2, both lengths, one byte short and two bytes short. -/
theorem witness_DecodingIsTotalOnTheOpcodeByte :
    ([] : List Byte).length + 1 < opcodeLength 0x3E ∧ ([] : List Byte).length + 1 < opcodeLength 0x3A ∧
    [(0x00 : Byte)].length + 1 < opcodeLength 0x3A := by decide

/-- An instruction of each length in the last bytes of memory. -/
theorem witness_StepRunsTheDecodedInstruction :
    (let s := put (smallPc 0x03FF) [0x3C]
     s.halted = false ∧ s.pc.toNat + 1 ≤ s.cfg.memSize ∧
      decode ((List.range 1).map fun k => s.mem.read (s.pc.toNat + k)) = .ok (.inrA, [])) ∧
    (let s := put (smallPc 0x03FE) [0x3E, 0x05]
     s.halted = false ∧ s.pc.toNat + 2 ≤ s.cfg.memSize ∧
      decode ((List.range 2).map fun k => s.mem.read (s.pc.toNat + k)) = .ok (.mviA 0x05, [])) ∧
    (let s := put (smallPc 0x03FD) [0xC3, 0x00, 0x02]
     s.halted = false ∧ s.pc.toNat + 3 ≤ s.cfg.memSize ∧
      decode ((List.range 3).map fun k => s.mem.read (s.pc.toNat + k)) = .ok (.jmp 0x0200, [])) := by decide

/-- The first address outside memory as opcode, second and third byte. -/
theorem witness_FetchOutsideMemoryFaults :
    (small.halted = false ∧ (smallPc 0x0400).cfg.memSize ≤ (smallPc 0x0400).pc.toNat) ∧
    (let s := put (smallPc 0x03FF) [0x3E]
     s.halted = false ∧ 1 < opcodeLength (s.mem.read s.pc.toNat) ∧ s.pc.toNat + 1 = s.cfg.memSize) ∧
    (let s := put (smallPc 0x03FE) [0xC2, 0x00]
     s.halted = false ∧ 2 < opcodeLength (s.mem.read s.pc.toNat) ∧ s.pc.toNat + 2 = s.cfg.memSize) := by decide

theorem witness_HaltedStepDoesNothing : State.halted { base with halted := true } = true := by decide

/-- A push that fits at both ends, and one that does not at each end; vectors at both ends and just outside. -/
theorem witness_InterruptRequestIsDelivered :
    (((-1 : Int) < 0 ∨ 7 < (-1 : Int)) ∧ ((8 : Int) < 0 ∨ 7 < (8 : Int)) ∧ (smallSp 2).Inv = true) ∧
    ((0 : Int) ≤ 0 ∧ (0 : Int) ≤ 7 ∧ small.Inv = true ∧ small.inte = false) ∧
    ((0 : Int) ≤ 7 ∧ (7 : Int) ≤ 7 ∧ (smallSp 0).Inv = true ∧ (smallSp 0).inte = true ∧ ¬ PushFits (smallSp 0) ∧
      ¬ PushFits (smallSp 1) ∧ ¬ PushFits (smallSp 0x0401)) ∧
    (PushFits (smallSp 2) ∧ PushFits (smallSp 0x0400) ∧ (smallSp 0x0400).Inv = true ∧ (smallSp 2).inte = true) := by
  unfold PushFits; decide

theorem witness_InterruptDoesNotWakeAHaltedCore :
    (let s : State := { smallSp 0x0400 with halted := true }
     s.Inv = true ∧ s.halted = true ∧ s.inte = true ∧ PushFits s) ∧
    (let s : State := { small with halted := true }
     s.Inv = true ∧ s.halted = true ∧ s.inte = false) ∧ (0 : Int) ≤ 7 := by
  unfold PushFits; decide

theorem witness_ReturnFromInterruptRestoresPcAndSp :
    (smallSp 2).Inv = true ∧ (smallSp 2).inte = true ∧ PushFits (smallSp 2) ∧ (0 : Int) ≤ 0 ∧ (0 : Int) ≤ 7 := by
  unfold PushFits; decide

/-- One move of each kind that has a next state. -/
theorem witness_EveryMoveKeepsTheInvariant :
    (smallSp 0x0400).Inv = true ∧ (∃ t, move .step (smallSp 0x0400) = .next t) ∧
    (∃ t, move (.request 7) (smallSp 0x0400) = .next t) ∧
    (∃ t, move (.reset 0x0100 0x2400) (smallSp 0x0400) = .next t) ∧
    (∃ t, move (.setInput 0xFF 0x5A) (smallSp 0x0400) = .next t) :=
  ⟨by decide, ⟨_, rfl⟩, ⟨_, rfl⟩, ⟨_, rfl⟩, ⟨_, rfl⟩⟩

theorem witness_HaltedLastsUntilReset :
    State.halted { smallSp 2 with halted := true } = true ∧
    ∀ m ∈ [Move.step, .request 3, .setInput 0 1, .step], ∀ p q, m ≠ .reset p q := by
  refine ⟨by decide, fun m hm p q h => ?_⟩
  subst h
  simp at hm

/-- A running step, a halted step, a step that faults, a request. -/
theorem witness_InstructionCounterCountsExecutedOpcodes :
    (∃ t, step base = .next t) ∧ (∃ t, step { base with halted := true } = .next t) ∧
    (∃ f, step (smallPc 0x0400) = .fault f) ∧ (∃ t, requestInterrupt 0 (smallSp 2) = .next t) :=
  ⟨⟨_, rfl⟩, ⟨_, rfl⟩, ⟨_, rfl⟩, ⟨_, rfl⟩⟩

/-- Instructions that store no byte, one byte and two bytes (at the ends of memory), a running step and a halted one. -/
theorem witness_StepChangesAtMostTwoBytes :
    (∃ t, exec .nop base = .next t) ∧ (∃ t, exec (.sta 0xFFFF) base = .next t) ∧
    (∃ t, exec .rst7 (base.setSp 2) = .next t) ∧ (∃ t, exec (.shld 0xFFFE) base = .next t) ∧
    (base.halted = false ∧ ∃ t, step (put (base.setSp 0x2000) [0xFF]) = .next t) ∧
    (let s : State := { base with halted := true }
     s.halted = true ∧ ∃ t, step s = .next t) :=
  ⟨⟨_, rfl⟩, ⟨_, rfl⟩, ⟨_, rfl⟩, ⟨_, rfl⟩, ⟨rfl, _, rfl⟩, ⟨rfl, _, rfl⟩⟩

/-- The store addresses of one row of every shape, from the pseudocode of the rules named (40_data_transfer.md R102, R107,
R109, R111; 41_arithmetic.md R137; 44_stack_control.md R190, R194, R202; 46_interrupt_machine_control.md R238). -/
theorem test_storeAddrs :
    (let s := ((base.setPair .hl 0x1234).setPair .de 0x2345).setSp 0x4000
     storeAddrs .movMB s = [0x1234] ∧ storeAddrs .dcrM s = [0x1234] ∧ storeAddrs .staxD s = [0x2345] ∧
     storeAddrs (.sta 0xFFFF) s = [0xFFFF] ∧ storeAddrs (.shld 0x2000) s = [0x2000, 0x2001] ∧
     storeAddrs .pushB s = [0x3FFF, 0x3FFE] ∧ storeAddrs .xthl s = [0x4000, 0x4001] ∧
     storeAddrs (.cz 0x0100) s = [] ∧ storeAddrs (.cnz 0x0100) s = [0x3FFF, 0x3FFE] ∧
     storeAddrs .undocDD s = [] ∧ storeAddrs .movBM s = []) ∧
    storeAddrs .undocDD (aliasing.setSp 0x4000) = [0x3FFF, 0x3FFE] := by decide

theorem witness_ParametersAreFixedForARun :
    (∃ t, move .step aliasing = .next t) ∧ (∃ t, move (.reset 0 0) small = .next t) := ⟨⟨_, rfl⟩, ⟨_, rfl⟩⟩

theorem witness_OnlyEiAndDiChangeInte :
    (∃ t, exec .ei base = .next t) ∧ (∃ t, exec .di base = .next t) ∧ (∃ t, exec .nop base = .next t) :=
  ⟨⟨_, rfl⟩, ⟨_, rfl⟩, ⟨_, rfl⟩⟩

theorem witness_OnlyHltAndUnimplementedOpcodesHalt :
    base.halted = false ∧ (∃ t, exec .hlt base = .next t) ∧ (∃ t, exec .undocCB base = .next t) ∧
    aliasing.halted = false ∧ (∃ t, exec .undocCB aliasing = .next t) :=
  ⟨rfl, ⟨_, rfl⟩, ⟨_, rfl⟩, rfl, ⟨_, rfl⟩⟩

theorem witness_OnlyInAndOutCrossTheIoBoundary :
    (∃ t, exec (.inPort 0xFF) base = .next t) ∧ (∃ t, exec (.outPort 0xFF) base = .next t) ∧
    (∀ p, Instr.nop ≠ .inPort p ∧ Instr.nop ≠ .outPort p) ∧ (∃ t, exec .nop base = .next t) := by
  refine ⟨⟨_, rfl⟩, ⟨_, rfl⟩, fun p => ⟨by simp, by simp⟩, ⟨_, rfl⟩⟩

theorem witness_InstructionsOutsideTheFlagTableKeepFlags :
    ¬ WritesFlags .cma ∧ (∃ t, exec .cma base = .next t) ∧ ¬ WritesFlags .inxB ∧ (∃ t, exec .inxB base = .next t) := by
  refine ⟨?_, ⟨_, rfl⟩, ?_, ⟨_, rfl⟩⟩ <;>
  · rintro (⟨op, src, h⟩ | ⟨r, h⟩ | ⟨r, h⟩ | h | h | ⟨q, h⟩ | h | h | h | h | h | h | h | h)
    · rcases src with r | _ | v <;> (cases op <;> first | cases h | (cases r <;> cases h))
    · cases r <;> cases h
    · cases r <;> cases h
    · cases h
    · cases h
    · cases q <;> cases h
    all_goals cases h

/-- The last byte inside memory and the first outside. -/
theorem witness_MovLoadsThroughHl : (smallPairs 0x03FF).hl.toNat < (smallPairs 0x03FF).cfg.memSize ∧
    (smallPairs 0x0400).cfg.memSize ≤ (smallPairs 0x0400).hl.toNat := by decide

theorem witness_MovAndMviStoreThroughHl : (smallPairs 0x03FF).Inv = true ∧ (smallPairs 0x0400).Inv = true ∧
    (smallPairs 0x03FF).hl.toNat < (smallPairs 0x03FF).cfg.memSize ∧
    (smallPairs 0x0400).cfg.memSize ≤ (smallPairs 0x0400).hl.toNat := by decide

theorem witness_LxiLoadsAPair : (Pair16.hl ≠ .sp) := by decide

theorem witness_LdaAndStaUseADirectAddress : small.Inv = true ∧ (0x03FF : Word).toNat < small.cfg.memSize ∧
    small.cfg.memSize ≤ (0x0400 : Word).toNat := by decide

/-- The last two bytes, the last byte alone, the first byte outside. -/
theorem witness_LhldAndShldMoveAPair : small.Inv = true ∧ (0x03FE : Word).toNat + 1 < small.cfg.memSize ∧
    (0x03FF : Word).toNat + 1 = small.cfg.memSize ∧ small.cfg.memSize ≤ (0x0400 : Word).toNat := by decide

theorem witness_LdaxAndStaxUseAPairAsAddress : (smallPairs 0x03FF).Inv = true ∧ (smallPairs 0x0400).Inv = true ∧
    ((smallPairs 0x03FF).indPair .de).toNat < (smallPairs 0x03FF).cfg.memSize ∧
    (smallPairs 0x0400).cfg.memSize ≤ ((smallPairs 0x0400).indPair .bc).toNat := by decide

/-- Every form of the source operand, the carry taken in and not, and `M` outside memory. -/
theorem witness_AddAndAdcFollowTheAdder :
    HasOperand (withA 0xFF true) (.reg .a) 0xFF ∧ HasOperand (smallPairs 0x03FF) .m 0x00 ∧
    HasOperand base (.imm 0x80) 0x80 ∧
    1 = (if AluOp.adc = .adc ∧ (withA 0xFF true).flags.cy = true then 1 else 0) ∧
    0 = (if AluOp.add = .adc ∧ (withA 0xFF true).flags.cy = true then 1 else 0) ∧
    (smallPairs 0x0400).cfg.memSize ≤ (smallPairs 0x0400).hl.toNat := by unfold HasOperand; decide

theorem witness_SubAndSbbFollowTheSubtractor :
    HasOperand (withA 0x00 true) (.reg .b) 0x00 ∧ HasOperand (smallPairs 0x03FF) .m 0x00 ∧
    HasOperand base (.imm 0xFF) 0xFF ∧
    1 = (if AluOp.sbb = .sbb ∧ (withA 0x00 true).flags.cy = true then 1 else 0) ∧
    0 = (if AluOp.sub = .sbb ∧ (withA 0x00 true).flags.cy = true then 1 else 0) ∧
    (smallPairs 0x0400).cfg.memSize ≤ (smallPairs 0x0400).hl.toNat := by unfold HasOperand; decide

theorem witness_CompareSetsFlagsOfTheDifference :
    HasOperand base (.reg .l) 0x00 ∧ HasOperand (smallPairs 0x03FF) .m 0x00 ∧ HasOperand base (.imm 0xFF) 0xFF ∧
    (smallPairs 0x0400).cfg.memSize ≤ (smallPairs 0x0400).hl.toNat := by unfold HasOperand; decide

theorem witness_LogicWorksBitByBit :
    HasOperand base (.reg .h) 0x00 ∧ HasOperand (smallPairs 0x03FF) .m 0x00 ∧ HasOperand base (.imm 0x08) 0x08 ∧
    (AluOp.xra = .ana ∨ AluOp.xra = .xra ∨ AluOp.xra = .ora) ∧
    (smallPairs 0x0400).cfg.memSize ≤ (smallPairs 0x0400).hl.toNat := by unfold HasOperand; decide

theorem witness_InrAndDcrStepTheByteAtHl : (smallPairs 0x03FF).Inv = true ∧ (smallPairs 0x0400).Inv = true ∧
    (smallPairs 0x03FF).hl.toNat < (smallPairs 0x03FF).cfg.memSize ∧
    (smallPairs 0x0400).cfg.memSize ≤ (smallPairs 0x0400).hl.toNat := by decide

/-- `A` = 9A, where both digits are corrected because of the third case of the upper one, and `A` = 00. -/
theorem witness_DaaAddsTheDecimalCorrection :
    (10 = ((withA 0x9A false).reg .a).toNat % 16 ∧ 9 = ((withA 0x9A false).reg .a).toNat / 16 ∧
      (True ↔ (withA 0x9A false).flags.cy = true ∨ 9 > 9 ∨ (9 ≥ 9 ∧ 10 > 9)) ∧
      0x66 = (if (withA 0x9A false).flags.ac = true ∨ 10 > 9 then 6 else 0) + 96) ∧
    (0 = ((withA 0x00 false).reg .a).toNat % 16 ∧ 0 = ((withA 0x00 false).reg .a).toNat / 16 ∧
      (False ↔ (withA 0x00 false).flags.cy = true ∨ 0 > 9 ∨ (0 ≥ 9 ∧ 0 > 9)) ∧
      0 = if (withA 0x00 false).flags.ac = true ∨ 0 > 9 then 6 else 0) := by decide

/-- `k` at both ends. -/
theorem witness_RotatesMoveEveryBitByOne : (0 < 7 ∧ 6 < 7) ∧ (Instr.ral = .rlc ∨ Instr.ral = .ral) ∧
    (Instr.rrc = .rrc ∨ Instr.rrc = .rar) := by decide

theorem witness_PushStoresAPair : (smallSp 2).Inv = true ∧ PushFits (smallSp 2) ∧ PushFits (smallSp 0x0400) ∧
    ¬ PushFits (smallSp 0) ∧ ¬ PushFits (smallSp 1) ∧ ¬ PushFits (smallSp 0x0401) := by unfold PushFits; decide

theorem witness_PushPswStoresAAndTheFlagByte : (smallSp 2).Inv = true ∧ PushFits (smallSp 2) ∧
    ¬ PushFits (smallSp 1) := by unfold PushFits; decide

/-- The last two bytes; the last byte alone and the first outside. -/
theorem witness_PopLoadsAPair : PopFits (smallSp 0x03FE) ∧ ¬ PopFits (smallSp 0x03FF) ∧ ¬ PopFits (smallSp 0x0400) := by
  unfold PopFits; decide

theorem witness_PopPswLoadsAAndTheFlags : PopFits (smallSp 0x03FE) ∧ ¬ PopFits (smallSp 0x03FF) := by
  unfold PopFits; decide

theorem witness_XthlSwapsHlWithTheStackTop : (smallSp 0x03FE).Inv = true ∧ PopFits (smallSp 0x03FE) ∧
    ¬ PopFits (smallSp 0x03FF) ∧ ¬ PopFits (smallSp 0x0400) := by unfold PopFits; decide

theorem witness_ConditionalJumpTakesOneOfTwoPaths : CondTrue .nz base.flags ∧ ¬ CondTrue .z base.flags := by
  unfold CondTrue; decide

theorem witness_CallPushesTheReturnAddress : (smallSp 2).Inv = true ∧ CondTrue .p (smallSp 2).flags ∧
    ¬ CondTrue .m (smallSp 2).flags ∧ PushFits (smallSp 2) ∧ PushFits (smallSp 0x0400) ∧ ¬ PushFits (smallSp 1) := by
  unfold CondTrue PushFits; decide

theorem witness_ReturnPopsTheProgramCounter : CondTrue .po (smallSp 2).flags ∧ ¬ CondTrue .pe (smallSp 2).flags ∧
    PopFits (smallSp 0x03FE) ∧ ¬ PopFits (smallSp 0x03FF) := by unfold CondTrue PopFits; decide

theorem witness_RestartPushesAndJumpsToEightN : (smallSp 2).Inv = true ∧ PushFits (smallSp 2) ∧
    ¬ PushFits (smallSp 1) := by unfold PushFits; decide

theorem witness_CallThenReturnGoesBack : (smallSp 0x0400).Inv = true ∧ PushFits (smallSp 0x0400) := by
  unfold PushFits; decide

theorem witness_PushThenPopKeepsRegistersFlagsAndSp : (smallSp 2).Inv = true ∧ PushFits (smallSp 2) := by
  unfold PushFits; decide

/-- A port the host's table is known for and one it is not. -/
theorem witness_InLoadsAFromThePort : (base.setInput 0xFF 0x5A).inPorts.lookup (0xFF : Byte).toNat = some 0x5A ∧
    base.inPorts.lookup (0x00 : Byte).toNat = none := by decide

/-- A request right after `EI` whose push fits, vectors at both ends. -/
theorem witness_EiDiHltNopWriteOnlyTheirBit :
    (let t : State := { smallSp 2 with pc := (smallSp 2).pc + 1, icount := (smallSp 2).icount + 1, result := .ok }
     exec .ei (smallSp 2) = .next t ∧ PushFits t) ∧ (0 : Int) ≤ 0 ∧ (7 : Int) ≤ 7 :=
  ⟨⟨rfl, by unfold PushFits; decide⟩, by decide, by decide⟩

/-- Both policies; the immediate bytes in the last two bytes of memory, and the first and the second of them outside. -/
theorem witness_UndocumentedBytesFollowThePolicy :
    (Instr.undoc08, (0x08 : Byte)) ∈ undocumentedRows ∧ base.cfg.undocPolicy = .fault ∧
    aliasing.cfg.undocPolicy = .aliased ∧
    (let s : State := { aliasing with pc := 0x03FD, cfg := { memSize := 0x0400, undocPolicy := .aliased } }
     s.pc.toNat + 2 < s.cfg.memSize ∧
      (0x0000 : Word) = joinBytes (s.mem.read (s.pc.toNat + 2)) (s.mem.read (s.pc.toNat + 1))) ∧
    (let s : State := { aliasing with pc := 0x03FE, cfg := { memSize := 0x0400, undocPolicy := .aliased } }
     s.pc.toNat + 2 = s.cfg.memSize) ∧
    (let s : State := { aliasing with pc := 0x03FF, cfg := { memSize := 0x0400, undocPolicy := .aliased } }
     s.cfg.memSize ≤ s.pc.toNat + 1) := by decide

end Sys2Proof.Tests
end

/-! ### Scope (00_scope.md): the invariant and the run's parameters

One relation, `KeepsForm`, says what a move does to the pieces the invariant is made of. It holds of every move that has
a next state, and both the invariant and the fixed parameters are read off it. -/

namespace Sys2Proof.Machine

variable {s t : State}

/-- From `s` to `t` the parameters are the same, and memory and the table of known inputs stay canonical. -/
structure KeepsForm (s t : State) : Prop where
  cfg : t.cfg = s.cfg
  mem : Memory.wf s.cfg.memSize s.mem = true → Memory.wf s.cfg.memSize t.mem = true
  ports : PortTable.wf s.inPorts = true → PortTable.wf t.inPorts = true

theorem KeepsForm.of_eq (hc : t.cfg = s.cfg) (hm : t.mem = s.mem) (hp : t.inPorts = s.inPorts) : KeepsForm s t :=
  ⟨hc, fun h => hm ▸ h, fun h => hp ▸ h⟩

theorem KeepsForm.inv (h : KeepsForm s t) (hi : s.Inv = true) : t.Inv = true := by
  have hcfg : s.cfg.wf = true := by simpa [Config.wf] using State.Inv.size hi
  refine State.Inv.of_parts ?_ ?_ (h.ports (State.Inv.ports_wf hi))
  · rw [h.cfg]; exact hcfg
  · rw [h.cfg]; exact h.mem (State.Inv.mem_wf hi)

/-- Every instruction writes at most two bytes, both inside memory (20_memory.md R42). -/
theorem Effect.keepsForm (h : Effect s t) : KeepsForm s t where
  cfg := h.cfg
  mem hw := by
    obtain hm | ⟨a, v, ha, hm⟩ | ⟨a, v, b, w, ha, hb, hm⟩ := h.mem
    · rw [hm]; exact hw
    · rw [hm]; exact Memory.write_wf hw v ha
    · rw [hm]; exact Memory.write_wf (Memory.write_wf hw v ha) w hb
  ports hw := h.inPorts ▸ hw

theorem step_keepsForm (h : step s = .next t) : KeepsForm s t := by
  obtain ⟨-, rfl⟩ | ⟨-, i, -, hexec⟩ := step_eq_next h
  · exact .of_eq rfl rfl rfl
  · exact (exec_effect hexec).keepsForm

/-- A request that has a next state was taken or dropped (60_exceptions.md R250), and its vector was valid (R244). -/
theorem requestInterrupt_eq_next {vector : Int} (h : requestInterrupt vector s = .next t) :
    0 ≤ vector ∧ vector ≤ 7 ∧
      ((s.inte = true ∧ s.takeInterrupt vector.toNat = .ok t) ∨
        (s.inte = false ∧ t = { s with result := .dropped })) := by
  unfold requestInterrupt at h
  split at h
  · cases h
  next hvalid =>
    refine ⟨by omega, by omega, ?_⟩
    split at h
    next hinte =>
      obtain ⟨u, htake, hu⟩ := andThen_eq_next h
      cases hu
      exact .inl ⟨hinte, htake⟩
    next hinte =>
      cases h
      exact .inr ⟨by simpa using hinte, rfl⟩

theorem takeInterrupt_keepsForm {n : Nat} (h : s.takeInterrupt n = .ok t) : KeepsForm s t := by
  obtain ⟨hlow, hhigh, rfl⟩ := State.takeInterrupt_ok h
  exact ⟨rfl, fun hw => Memory.write_wf (Memory.write_wf hw _ (by omega)) _ (by omega), id⟩

theorem requestInterrupt_keepsForm {vector : Int} (h : requestInterrupt vector s = .next t) : KeepsForm s t := by
  obtain ⟨-, -, ⟨-, htake⟩ | ⟨-, rfl⟩⟩ := requestInterrupt_eq_next h
  · exact takeInterrupt_keepsForm htake
  · exact .of_eq rfl rfl rfl

theorem setInput_keepsForm (port v : Byte) (s : State) : KeepsForm s (s.setInput port v) where
  cfg := s.setInput_cfg port v
  mem := id
  ports hw := PortTable.set_wf hw v port.isLt

theorem move_keepsForm {m : Move} (h : move m s = .next t) : KeepsForm s t := by
  cases m with
  | step => exact step_keepsForm h
  | request vector => exact requestInterrupt_keepsForm h
  | reset entryPc entrySp => cases h; exact .of_eq (s.hostReset_cfg ..) (s.hostReset_mem ..) (s.hostReset_inPorts ..)
  | setInput port v => cases h; exact setInput_keepsForm port v s

/-- Settles O15: every move keeps the pieces of the invariant canonical. -/
theorem everyMoveKeepsTheInvariant : Obligations.EveryMoveKeepsTheInvariant :=
  fun _ _ _ hi h => (move_keepsForm h).inv hi

/-- Settles O20: the same relation, read at the parameters. -/
theorem parametersAreFixedForARun : Obligations.ParametersAreFixedForARun :=
  fun _ _ _ h => (move_keepsForm h).cfg

/-- Settles O14: the default parameters are in range (00_scope.md R4), and both lists are empty. -/
theorem resetHasTheInvariant : Obligations.ResetHasTheInvariant :=
  State.Inv.of_parts (by decide) (Memory.wf_nil _) rfl

end Sys2Proof.Machine

/-! ### State (10_state.md): reset values, `ICOUNT`, the control bits and the flags

`ICOUNT` and the control bits are read off `exec_effect` and `exec_plain`. The flags are in neither, so that part begins
with what the shared accesses keep of them. -/

namespace Sys2Proof.Machine

variable {s t : State} {i : Instr}

/-! #### `ICOUNT` (R27) -/

theorem step_icount (h : step s = .next t) : t.icount = if s.halted then s.icount else s.icount + 1 := by
  obtain ⟨hhalted, rfl⟩ | ⟨hrunning, i, -, hexec⟩ := step_eq_next h
  · rw [if_pos hhalted]
  · rw [if_neg (by simp [hrunning])]
    exact (exec_effect hexec).icount

theorem State.after_of_fault {m : Move} {f : Fault} (h : move m s = .fault f) : s.after m = s := by
  simp only [State.after, h]

theorem requestInterrupt_icount {vector : Int} (h : requestInterrupt vector s = .next t) : t.icount = s.icount := by
  obtain ⟨-, -, ⟨-, htake⟩ | ⟨-, rfl⟩⟩ := requestInterrupt_eq_next h
  · obtain ⟨-, -, rfl⟩ := State.takeInterrupt_ok htake
    rfl
  · rfl

/-- Settles O17: every executed instruction counts once (`exec_effect`), a fault leaves the state, and neither a taken
nor a dropped request counts. -/
theorem instructionCounterCountsExecutedOpcodes : Obligations.InstructionCounterCountsExecutedOpcodes :=
  ⟨fun _ _ => step_icount,
   fun s _ h => congrArg State.icount (State.after_of_fault (s := s) (m := .step) h),
   fun _ _ _ => requestInterrupt_icount⟩

/-! #### `INTE` and `HALTED` (R25, R26) -/

theorem exec_inte_of_ne (hei : i ≠ .ei) (hdi : i ≠ .di) (h : exec i s = .next t) : t.inte = s.inte := by
  by_cases hs : Special i
  · rcases hs with rfl | rfl | rfl | ⟨p, rfl⟩ | ⟨p, rfl⟩ | hundoc
    · exact absurd rfl hei
    · exact absurd rfl hdi
    · cases h; rfl
    · cases h; rfl
    · cases h; rfl
    · obtain ⟨-, op, rfl⟩ | ⟨-, hplain⟩ := exec_undocumented hundoc h
      · exact s.raiseUnimplemented_inte op
      · exact hplain.inte
  · exact (exec_plain hs h).inte

/-- Settles O21: `EI` and `DI` write the bit, and `exec_inte_of_ne` covers the others. -/
theorem onlyEiAndDiChangeInte : Obligations.OnlyEiAndDiChangeInte := by
  intro i s t h
  by_cases hei : i = .ei
  · subst hei; cases h; rfl
  · by_cases hdi : i = .di
    · subst hdi; cases h; rfl
    · rw [if_neg hei, if_neg hdi]
      exact exec_inte_of_ne hei hdi h

theorem exec_halted_of_documented (hhlt : i ≠ .hlt) (hdoc : i ∉ undocumentedRows.map Prod.fst)
    (h : exec i s = .next t) : t.halted = s.halted := by
  by_cases hs : Special i
  · rcases hs with rfl | rfl | rfl | ⟨p, rfl⟩ | ⟨p, rfl⟩ | hundoc
    · cases h; rfl
    · cases h; rfl
    · exact absurd rfl hhlt
    · cases h; rfl
    · cases h; rfl
    · exact absurd hundoc hdoc
  · exact (exec_plain hs h).halted

/-- An undocumented byte on a running core halts it under the policy `fault` only (60_exceptions.md R243). -/
theorem exec_undocumented_halted_iff (hrun : s.halted = false) (hundoc : i ∈ undocumentedRows.map Prod.fst)
    (h : exec i s = .next t) : t.halted = true ↔ s.cfg.undocPolicy = .fault := by
  obtain ⟨hpolicy, op, rfl⟩ | ⟨hpolicy, hplain⟩ := exec_undocumented hundoc h
  · simp [hpolicy]
  · simp [hpolicy, hplain.halted, hrun]

/-- Settles O22: `HLT`, an undocumented byte by its policy, and every other instruction keeps the bit. -/
theorem onlyHltAndUnimplementedOpcodesHalt : Obligations.OnlyHltAndUnimplementedOpcodesHalt := by
  intro i s t hrun h
  by_cases hhlt : i = .hlt
  · subst hhlt; cases h
    exact ⟨fun _ => .inl rfl, fun _ => rfl⟩
  · by_cases hundoc : i ∈ undocumentedRows.map Prod.fst
    · rw [exec_undocumented_halted_iff hrun hundoc h]
      exact ⟨fun hpolicy => .inr ⟨hundoc, hpolicy⟩, fun hor => (hor.resolve_left hhlt).2⟩
    · rw [exec_halted_of_documented hhlt hundoc h, hrun]
      simp [hhlt, hundoc]

/-! #### The flags (R24) -/

theorem State.memWrite_flags {a : Int} {v : Byte} (h : s.memWrite a v = .ok t) : t.flags = s.flags := by
  obtain ⟨-, -, rfl⟩ := State.memWrite_ok h
  rfl

theorem State.memWrite16_flags {n : Nat} {v : Word} (h : s.memWrite16 n v = .ok t) : t.flags = s.flags := by
  obtain ⟨-, rfl⟩ := State.memWrite16_ok h
  rfl

theorem State.push16_flags {v : Word} (h : s.push16 v = .ok t) : t.flags = s.flags := by
  obtain ⟨-, -, rfl⟩ := State.push16_ok h
  rfl

theorem State.pop16_flags {r : Word × State} (h : s.pop16 = .ok r) : r.2.flags = s.flags := by
  obtain ⟨-, rfl⟩ := State.pop16_ok h
  rfl

theorem KeepsFlags.of_next {u : State} (h : (.next u : Out) = .next t) (hu : u.flags = s.flags) : KeepsFlags s t :=
  Host.Outcome.next.inj h ▸ hu

/-- An instruction that goes on with a checked access. -/
theorem KeepsFlags.of_access {α : Type} {r : Except Fault α} {k : α → State}
    (h : (andThen r fun v => .next (k v)) = .next t) (hk : ∀ v, r = .ok v → (k v).flags = s.flags) :
    KeepsFlags s t := by
  obtain ⟨v, hr, hv⟩ := andThen_eq_next h
  exact .of_next hv (hk v hr)

theorem callTo_keepsFlags {len : Nat} {w : Word} (h : s.callTo len w = .next t) : KeepsFlags s t :=
  .of_access h fun _ => State.push16_flags

theorem returnFrom_keepsFlags (h : s.returnFrom = .next t) : KeepsFlags s t :=
  .of_access h fun _ => State.pop16_flags

theorem noOperation_keepsFlags (h : noOperation s = .next t) : KeepsFlags s t := .of_next h rfl

theorem jumpAlias_keepsFlags (h : jumpAlias s = .next t) : KeepsFlags s t := .of_access h fun _ _ => rfl

theorem callAlias_keepsFlags (h : callAlias s = .next t) : KeepsFlags s t := by
  obtain ⟨w, -, hcall⟩ := andThen_eq_next h
  exact callTo_keepsFlags hcall

theorem xthl_keepsFlags (h : execXthl s = .next t) : KeepsFlags s t := by
  obtain ⟨v, -, hwrite⟩ := andThen_eq_next h
  exact .of_access hwrite fun _ => State.memWrite16_flags

/-- `UnimplementedOpcode` writes no flag, so an undocumented byte keeps the flags under either policy if what it stands
for does (46_interrupt_machine_control.md R238). -/
theorem undocumented_keepsFlags {op : Byte} {asAlias : State → Out} (halias : asAlias s = .next t → KeepsFlags s t)
    (h : undocumented op asAlias s = .next t) : KeepsFlags s t := by
  cases hpolicy : s.cfg.undocPolicy with
  | fault => rw [undocumented_fault hpolicy h]; exact s.raiseUnimplemented_flags op
  | aliased => rw [undocumented, hpolicy] at h; exact halias h

theorem exec_keepsFlags (hw : ¬ WritesFlags i) (h : exec i s = .next t) : KeepsFlags s t := by
  induction i using Instr.byFamily with
  | alu | inr | dcr | inrM | dcrM | dad | daa | rlc | rrc | ral | rar | stc | cmc | popPSW =>
    exact absurd (by simp [WritesFlags]) hw
  | mov => rw [exec_mov] at h; exact .of_next h rfl
  | mvi => rw [exec_mvi] at h; exact .of_next h rfl
  | lxi => rw [exec_lxi] at h; exact .of_next h (by simp)
  | inx => rw [exec_inx] at h; exact .of_next h (by simp)
  | dcx => rw [exec_dcx] at h; exact .of_next h (by simp)
  | cma | xchg | sphl | jmp | pchl | ei | di | hlt | inPort | outPort => exact .of_next h rfl
  | nop => exact noOperation_keepsFlags h
  | movFromM => rw [exec_movFromM] at h; exact .of_access h fun _ _ => rfl
  | ldax => rw [exec_ldax] at h; exact .of_access h fun _ _ => rfl
  | lda | lhld => exact .of_access h fun _ _ => rfl
  | movToM => rw [exec_movToM] at h; exact .of_access h fun _ => State.memWrite_flags
  | stax => rw [exec_stax] at h; exact .of_access h fun _ => State.memWrite_flags
  | mviM | sta => exact .of_access h fun _ => State.memWrite_flags
  | shld => exact .of_access h fun _ => State.memWrite16_flags
  | xthl => exact xthl_keepsFlags h
  | push => rw [exec_push] at h; exact .of_access h fun _ => State.push16_flags
  | pushPSW => exact .of_access h fun _ => State.push16_flags
  | pop => rw [exec_pop] at h; exact .of_access h fun _ => State.pop16_flags
  | jcc =>
    rw [exec_jcc, jumpIf] at h
    split at h
    · exact .of_next h rfl
    · exact .of_next h rfl
  | ccc =>
    rw [exec_ccc, callIf] at h
    split at h
    · exact callTo_keepsFlags h
    · exact .of_next h rfl
  | rcc =>
    rw [exec_rcc, returnIf] at h
    split at h
    · exact returnFrom_keepsFlags h
    · exact .of_next h rfl
  | call => exact callTo_keepsFlags h
  | rst => rw [exec_rst] at h; exact callTo_keepsFlags h
  | ret => exact returnFrom_keepsFlags h
  | undoc08 | undoc10 | undoc18 | undoc20 | undoc28 | undoc30 | undoc38 =>
    exact undocumented_keepsFlags noOperation_keepsFlags h
  | undocCB => exact undocumented_keepsFlags jumpAlias_keepsFlags h
  | undocD9 => exact undocumented_keepsFlags returnFrom_keepsFlags h
  | undocDD | undocED | undocFD => exact undocumented_keepsFlags callAlias_keepsFlags h

/-- Settles O24: every family outside the flag table ends in a state with the old flags. -/
theorem instructionsOutsideTheFlagTableKeepFlags : Obligations.InstructionsOutsideTheFlagTableKeepFlags :=
  fun _ _ _ => exec_keepsFlags

/-! #### Reset (R30) -/

theorem State.reset_reg (r : Reg8) : State.reset.reg r = 0 := by cases r <;> rfl

/-- Settles O12: the registers by name, the other fields by evaluation. -/
theorem resetStateIsZeroed : Obligations.ResetStateIsZeroed :=
  ⟨State.reset_reg, rfl, by decide, rfl, rfl, rfl, rfl, rfl, rfl, rfl⟩

end Sys2Proof.Machine

/-! ### The I/O boundary (20_memory.md): only `IN` and `OUT` cross it

That the others keep the trace, the count and the table is read off `exec_effect` and `exec_plain`. That they read no
input compares two runs, so it is a property of the meaning as a function, `ReadsNoInput`, with one rule per way a
meaning is built. -/

namespace Sys2Proof.Machine

variable {s t : State} {i : Instr}

/-! #### What the other instructions keep (R50, R51) -/

theorem exec_io_of_ne (hin : ∀ p, i ≠ .inPort p) (hout : ∀ p, i ≠ .outPort p) (h : exec i s = .next t) :
    t.outputs = s.outputs ∧ t.inCount = s.inCount := by
  by_cases hs : Special i
  · rcases hs with rfl | rfl | rfl | ⟨p, rfl⟩ | ⟨p, rfl⟩ | hundoc
    · cases h; exact ⟨rfl, rfl⟩
    · cases h; exact ⟨rfl, rfl⟩
    · cases h; exact ⟨rfl, rfl⟩
    · exact absurd rfl (hin p)
    · exact absurd rfl (hout p)
    · obtain ⟨-, op, rfl⟩ | ⟨-, hplain⟩ := exec_undocumented hundoc h
      · exact ⟨s.raiseUnimplemented_outputs op, s.raiseUnimplemented_inCount op⟩
      · exact ⟨hplain.outputs, hplain.inCount⟩
  · have hplain := exec_plain hs h
    exact ⟨hplain.outputs, hplain.inCount⟩

theorem exec_outputs_of_ne (hout : ∀ p, i ≠ .outPort p) (h : exec i s = .next t) : t.outputs = s.outputs := by
  by_cases hin : ∃ p, i = .inPort p
  · obtain ⟨p, rfl⟩ := hin
    cases h; rfl
  · exact (exec_io_of_ne (not_exists.mp hin) hout h).1

theorem exec_inCount_of_ne (hin : ∀ p, i ≠ .inPort p) (h : exec i s = .next t) : t.inCount = s.inCount := by
  by_cases hout : ∃ p, i = .outPort p
  · obtain ⟨p, rfl⟩ := hout
    cases h; rfl
  · exact (exec_io_of_ne hin (not_exists.mp hout) h).2

/-! #### Meanings that read no input (R48, R49) -/

/-- The outcome of `f` is the same whatever the input boundary holds, and leaves that as it is. -/
def ReadsNoInput (f : State → Out) : Prop :=
  ∀ (s : State) (ports : PortTable) (n : Nat), f (s.withInputs ports n) = outWithInputs ports n (f s)

namespace ReadsNoInput

variable {f g : State → Out}

theorem congr (h : ∀ s, f s = g s) (hg : ReadsNoInput g) : ReadsNoInput f :=
  (funext h : f = g) ▸ hg

theorem of_next {k : State → State}
    (hk : ∀ s ports n, k (s.withInputs ports n) = (k s).withInputs ports n) : ReadsNoInput fun s => .next (k s) :=
  fun s ports n => congrArg Host.Outcome.next (hk s ports n)

/-- A checked access whose value carries the input boundary along by `carry`, and what goes on with it. -/
theorem of_access {α : Type} {access : State → Except Fault α} {carry : PortTable → Nat → α → α}
    {k : State → α → Out}
    (haccess : ∀ s ports n, access (s.withInputs ports n) = (access s).map (carry ports n))
    (hk : ∀ s v ports n, k (s.withInputs ports n) (carry ports n v) = outWithInputs ports n (k s v)) :
    ReadsNoInput fun s => andThen (access s) (k s) := by
  intro s ports n
  simp only [haccess, andThen_map, outWithInputs_andThen, hk]

/-- The access reads memory or a register. -/
theorem of_read {α : Type} {access : State → Except Fault α} {k : State → α → Out}
    (haccess : ∀ s ports n, access (s.withInputs ports n) = access s) (hk : ∀ v, ReadsNoInput fun s => k s v) :
    ReadsNoInput fun s => andThen (access s) (k s) := by
  intro s ports n
  simp only [haccess, outWithInputs_andThen]
  exact congrArg (andThen (access s)) (funext fun v => hk v s ports n)

/-- The access writes memory. -/
theorem of_write {access : State → Except Fault State} {k : State → State → State}
    (haccess : ∀ s ports n, access (s.withInputs ports n) = (access s).map (State.withInputs ports n))
    (hk : ∀ s u ports n, k (s.withInputs ports n) (u.withInputs ports n) = (k s u).withInputs ports n) :
    ReadsNoInput fun s => andThen (access s) fun u => .next (k s u) :=
  of_access haccess fun s u ports n => congrArg Host.Outcome.next (hk s u ports n)

theorem of_pop {k : Word × State → State}
    (hk : ∀ w u ports n, k (w, u.withInputs ports n) = (k (w, u)).withInputs ports n) :
    ReadsNoInput fun s => andThen s.pop16 fun r => .next (k r) :=
  of_access (fun s ports n => s.withInputs_pop16 ports n)
    fun _ r ports n => congrArg Host.Outcome.next (hk r.1 r.2 ports n)

theorem of_ite {c : State → Bool} (hc : ∀ s ports n, c (s.withInputs ports n) = c s) (hf : ReadsNoInput f)
    (hg : ReadsNoInput g) : ReadsNoInput fun s => if c s then f s else g s := by
  intro s ports n
  dsimp only
  rw [hc]
  split
  · exact hf s ports n
  · exact hg s ports n

end ReadsNoInput

theorem push16_readsNoInput {v : State → Word} {k : State → State}
    (hv : ∀ s ports n, v (s.withInputs ports n) = v s)
    (hk : ∀ u ports n, k (u.withInputs ports n) = (k u).withInputs ports n) :
    ReadsNoInput fun s => andThen (s.push16 (v s)) fun u => .next (k u) :=
  .of_write (fun s ports n => by rw [hv, s.withInputs_push16]) fun _ => hk

theorem callTo_readsNoInput (len : Nat) (w : Word) : ReadsNoInput fun s => s.callTo len w :=
  push16_readsNoInput (fun _ _ _ => rfl) fun _ _ _ => rfl

theorem returnFrom_readsNoInput : ReadsNoInput State.returnFrom := .of_pop fun _ _ _ _ => rfl

theorem noOperation_readsNoInput : ReadsNoInput noOperation := .of_next fun _ _ _ => rfl

theorem jumpAlias_readsNoInput : ReadsNoInput jumpAlias :=
  .of_read (fun _ _ _ => rfl) fun _ => .of_next fun _ _ _ => rfl

theorem callAlias_readsNoInput : ReadsNoInput callAlias :=
  .of_read (fun _ _ _ => rfl) (callTo_readsNoInput 3)

theorem stepMem_readsNoInput (f : Byte → Flags → Byte × Flags) : ReadsNoInput (stepMem f) :=
  .of_read (fun _ _ _ => rfl) fun _ =>
    .of_write (fun s ports n => s.withInputs_memWrite ports n _ _) fun _ _ _ _ => rfl

theorem xthl_readsNoInput : ReadsNoInput execXthl :=
  .of_read (fun _ _ _ => rfl) fun _ =>
    .of_write (fun s ports n => s.withInputs_memWrite16 ports n _ _) fun _ _ _ _ => rfl

theorem intoAccumulator_readsNoInput (f : Byte → Byte → Flags → Byte × Flags) (src : Src8) :
    ReadsNoInput (intoAccumulator f src) :=
  .of_read (fun s ports n => s.withInputs_src8 ports n src) fun _ => .of_next fun _ _ _ => rfl

theorem compareWith_readsNoInput (src : Src8) : ReadsNoInput (compareWith src) :=
  .of_read (fun s ports n => s.withInputs_src8 ports n src) fun _ => .of_next fun _ _ _ => rfl

/-- The policy is a parameter of the run and not an input, so an undocumented byte reads none under either if what it
stands for reads none (46_interrupt_machine_control.md R238). -/
theorem undocumented_readsNoInput (op : Byte) {asAlias : State → Out} (halias : ReadsNoInput asAlias) :
    ReadsNoInput (undocumented op asAlias) := by
  intro s ports n
  simp only [undocumented, State.withInputs_cfg]
  cases s.cfg.undocPolicy with
  | fault => rfl
  | aliased => exact halias s ports n

theorem exec_readsNoInput (hin : ∀ p, i ≠ .inPort p) : ReadsNoInput (exec i) := by
  induction i using Instr.byFamily with
  | inPort p => exact absurd rfl (hin p)
  | mov dst src => exact .congr (exec_mov · dst src) (.of_next fun _ _ _ => rfl)
  | mvi r v => exact .congr (exec_mvi · r v) (.of_next fun _ _ _ => rfl)
  | inr r => exact .congr (exec_inr · r) (.of_next fun _ _ _ => rfl)
  | dcr r => exact .congr (exec_dcr · r) (.of_next fun _ _ _ => rfl)
  | lxi q w => exact .congr (exec_lxi · q w) (.of_next fun _ _ _ => by simp)
  | inx q => exact .congr (exec_inx · q) (.of_next fun _ _ _ => by simp)
  | dcx q => exact .congr (exec_dcx · q) (.of_next fun _ _ _ => by simp)
  | dad q => exact .congr (exec_dad · q) (.of_next fun _ _ _ => by simp)
  | rlc | rrc | ral | rar | daa | cma | stc | cmc | xchg | sphl | jmp | pchl | ei | di | hlt | outPort =>
    exact .of_next fun _ _ _ => rfl
  | nop => exact noOperation_readsNoInput
  | movFromM r => exact .congr (exec_movFromM · r) (.of_read (fun _ _ _ => rfl) fun _ => .of_next fun _ _ _ => rfl)
  | ldax p =>
    exact .congr (exec_ldax · p) (.of_read (fun _ _ _ => by simp) fun _ => .of_next fun _ _ _ => rfl)
  | lda | lhld => exact .of_read (fun _ _ _ => rfl) fun _ => .of_next fun _ _ _ => rfl
  | movToM r => exact .congr (exec_movToM · r) (.of_write (fun _ _ _ => by simp) fun _ _ _ _ => rfl)
  | stax p => exact .congr (exec_stax · p) (.of_write (fun _ _ _ => by simp) fun _ _ _ _ => rfl)
  | mviM | sta | shld => exact .of_write (fun _ _ _ => by simp) fun _ _ _ _ => rfl
  | inrM | dcrM => exact stepMem_readsNoInput _
  | xthl => exact xthl_readsNoInput
  | alu op src =>
    by_cases hop : op = .cmp
    · subst hop
      exact .congr (exec_alu · .cmp src) (compareWith_readsNoInput src)
    · exact .congr (exec_alu_into · src hop) (intoAccumulator_readsNoInput _ src)
  | push p => exact .congr (exec_push · p) (push16_readsNoInput (fun _ _ _ => rfl) fun _ _ _ => rfl)
  | pushPSW => exact push16_readsNoInput (fun _ _ _ => rfl) fun _ _ _ => rfl
  | pop p => exact .congr (exec_pop · p) (.of_pop fun _ _ _ _ => rfl)
  | popPSW => exact .of_pop fun _ _ _ _ => rfl
  | jcc code w =>
    exact .congr (exec_jcc · code w)
      (.of_ite (fun _ _ _ => rfl) (.of_next fun _ _ _ => rfl) (.of_next fun _ _ _ => rfl))
  | ccc code w =>
    exact .congr (exec_ccc · code w) (.of_ite (fun _ _ _ => rfl) (callTo_readsNoInput 3 w) (.of_next fun _ _ _ => rfl))
  | rcc code =>
    exact .congr (exec_rcc · code) (.of_ite (fun _ _ _ => rfl) returnFrom_readsNoInput (.of_next fun _ _ _ => rfl))
  | call w => exact callTo_readsNoInput 3 w
  | rst m => exact .congr (exec_rst · m) (callTo_readsNoInput 1 _)
  | ret => exact returnFrom_readsNoInput
  | undoc08 | undoc10 | undoc18 | undoc20 | undoc28 | undoc30 | undoc38 =>
    exact undocumented_readsNoInput _ noOperation_readsNoInput
  | undocCB => exact undocumented_readsNoInput _ jumpAlias_readsNoInput
  | undocD9 => exact undocumented_readsNoInput _ returnFrom_readsNoInput
  | undocDD | undocED | undocFD => exact undocumented_readsNoInput _ callAlias_readsNoInput

/-- Settles O23: what every instruction but `IN` and `OUT` keeps, and that every meaning but that of `IN` is built from
operations that read no input. -/
theorem onlyInAndOutCrossTheIoBoundary : Obligations.OnlyInAndOutCrossTheIoBoundary :=
  ⟨fun _ _ _ h =>
    ⟨fun hout => exec_outputs_of_ne hout h, fun hin => exec_inCount_of_ne hin h, (exec_effect h).inPorts⟩,
   fun _ s ports n hin => exec_readsNoInput hin s ports n⟩

end Sys2Proof.Machine

/-! ### Encoding (30_encoding.md): the decoder and the encoder agree

`decode` is split once, by the length of the opcode byte. One direction of the round trip is a case per row of the
instruction set; the other, `encode_instrOf`, is a case per opcode byte, with its immediate bytes left variable. -/

namespace Sys2Proof

variable {op b2 b3 : Byte} {i : Instr} {rest bytes : List Byte}

/-! #### `decode` by the length of the opcode byte (R70) -/

theorem opcodeLength_cases (op : Byte) : opcodeLength op = 1 ∨ opcodeLength op = 2 ∨ opcodeLength op = 3 := by
  unfold opcodeLength
  split_ifs <;> simp

theorem decode_of_length_one (h : opcodeLength op = 1) : decode (op :: rest) = .ok (instrOf op 0 0, rest) := by
  simp [decode, h]

theorem decode_of_length_two (h : opcodeLength op = 2) : decode (op :: b2 :: rest) = .ok (instrOf op b2 0, rest) := by
  simp [decode, h]

theorem decode_of_length_three (h : opcodeLength op = 3) :
    decode (op :: b2 :: b3 :: rest) = .ok (instrOf op b2 b3, rest) := by
  simp [decode, h]

theorem decode_truncated (h : rest.length + 1 < opcodeLength op) : decode (op :: rest) = .error (.truncated op) := by
  obtain hlen | hlen | hlen := opcodeLength_cases op
  · omega
  · match rest with
    | [] => simp [decode, hlen]
    | _ :: _ => simp [hlen] at h
  · match rest with
    | [] | [_] => simp [decode, hlen]
    | _ :: _ :: _ =>
      simp only [List.length_cons, hlen] at h
      omega

/-- What a byte string that decodes is made of. -/
theorem decode_eq_ok (h : decode bytes = .ok (i, rest)) :
    ∃ op b2 b3, i = instrOf op b2 b3 ∧ bytes = [op, b2, b3].take (opcodeLength op) ++ rest := by
  match bytes with
  | [] => cases h
  | op :: tail =>
    have hlong : ¬ tail.length + 1 < opcodeLength op := fun hshort => by
      rw [decode_truncated hshort] at h
      cases h
    obtain hlen | hlen | hlen := opcodeLength_cases op
    · rw [decode_of_length_one hlen] at h
      cases h
      exact ⟨op, 0, 0, rfl, by simp [hlen]⟩
    · match tail with
      | [] => simp [hlen] at hlong
      | b2 :: _ =>
        rw [decode_of_length_two hlen] at h
        cases h
        exact ⟨op, b2, 0, rfl, by simp [hlen]⟩
    · match tail with
      | [] | [_] => simp [hlen] at hlong
      | b2 :: b3 :: _ =>
        rw [decode_of_length_three hlen] at h
        cases h
        exact ⟨op, b2, b3, rfl, by simp [hlen]⟩

/-! #### Decoding what was encoded -/

/-- A row with an `imm16` (R77), from what the decoder makes of its opcode byte and any two bytes after it. -/
theorem decode_imm16 {row : Word → Instr} {w : Word} (hlen : opcodeLength op = 3)
    (hrow : ∀ b2 b3, instrOf op b2 b3 = row (joinBytes b3 b2)) :
    decode (op :: loByte w :: hiByte w :: rest) = .ok (row w, rest) := by
  rw [decode_of_length_three hlen, hrow, joinBytes_hi_lo]

/-- The rows without an `imm16` evaluate, whatever their `imm8` and the bytes after them. -/
theorem decode_encode (i : Instr) (rest : List Byte) : decode (encode i ++ rest) = .ok (i, rest) := by
  induction i using Instr.byFamily with
  | lxi q => cases q <;> exact decode_imm16 rfl fun _ _ => rfl
  | jcc code | ccc code => cases code <;> exact decode_imm16 rfl fun _ _ => rfl
  | shld | lhld | sta | lda | jmp | call => exact decode_imm16 rfl fun _ _ => rfl
  | mov dst src => cases dst <;> cases src <;> rfl
  | movFromM r | movToM r | mvi r | inr r | dcr r => cases r <;> rfl
  | inx q | dcx q | dad q => cases q <;> rfl
  | ldax p | stax p | push p | pop p => cases p <;> rfl
  | rcc code => cases code <;> rfl
  | alu op src =>
    cases src with
    | reg r => cases op <;> cases r <;> rfl
    | m | imm => cases op <;> rfl
  | rst n => fin_cases n <;> rfl
  | _ => rfl

/-- Settles O1: the round trip from the instruction. -/
theorem decodeOfEncodeIsTheInstruction : Obligations.DecodeOfEncodeIsTheInstruction := decode_encode

/-! #### Encoding what was decoded -/

theorem ofNat_fields (op : Byte) : BitVec.ofNat 8 (64 * fieldQQ op + 8 * fieldMid op + fieldLow op) = op := by
  simp only [fieldQQ, fieldMid, fieldLow]
  bv_omega

/-- Every byte is the pattern `qq mid low` of its fields (R72), which are what the decoder branches on. -/
theorem Byte.byFields {P : Byte → Prop}
    (pattern : ∀ (qq : Fin 4) (mid low : Fin 8), P (BitVec.ofNat 8 (64 * qq + 8 * mid + low))) (op : Byte) : P op :=
  ofNat_fields op ▸ pattern ⟨fieldQQ op, by unfold fieldQQ; omega⟩ ⟨fieldMid op, by unfold fieldMid; omega⟩
    ⟨fieldLow op, by unfold fieldLow; omega⟩

/-- The bytes of the row of `op` with these immediates, of which it has at most one (R71). -/
def rowBytes (op imm8 : Byte) (imm16 : Word) : List Byte :=
  match opcodeLength op with
  | 3 => [op, loByte imm16, hiByte imm16]
  | 2 => [op, imm8]
  | _ => [op]

theorem rowBytes_joinBytes (op b2 b3 : Byte) :
    rowBytes op b2 (joinBytes b3 b2) = [op, b2, b3].take (opcodeLength op) := by
  obtain hlen | hlen | hlen := opcodeLength_cases op <;> simp [rowBytes, hlen]

/-- The decoder's patterns and the encoder's map of R80 are the same table: once the fields are fixed, both evaluate. -/
theorem encode_instrOf_eq_rowBytes (op b2 b3 : Byte) :
    encode (instrOf op b2 b3) = rowBytes op b2 (joinBytes b3 b2) := by
  induction op using Byte.byFields with
  | pattern qq mid low => fin_cases qq <;> fin_cases mid <;> fin_cases low <;> rfl

theorem encode_instrOf (op b2 b3 : Byte) : encode (instrOf op b2 b3) = [op, b2, b3].take (opcodeLength op) :=
  (encode_instrOf_eq_rowBytes op b2 b3).trans (rowBytes_joinBytes op b2 b3)

/-- Settles O2: a byte string that decodes is the bytes its opcode byte asks for, which are the encoding, and a rest. -/
theorem decodedBytesAreTheEncoding : Obligations.DecodedBytesAreTheEncoding := by
  intro bytes i rest h
  obtain ⟨op, b2, b3, rfl, hbytes⟩ := decode_eq_ok h
  rw [hbytes, encode_instrOf]

theorem exists_decode_triple (op b2 b3 : Byte) :
    ∃ i, decode [op, b2, b3] = .ok (i, [op, b2, b3].drop (opcodeLength op)) ∧
      encode i = [op, b2, b3].take (opcodeLength op) := by
  obtain hlen | hlen | hlen := opcodeLength_cases op
  · exact ⟨instrOf op 0 0, by simp [decode_of_length_one, hlen], by simp [encode_instrOf, hlen]⟩
  · exact ⟨instrOf op b2 0, by simp [decode_of_length_two, hlen], by simp [encode_instrOf, hlen]⟩
  · exact ⟨instrOf op b2 b3, by simp [decode_of_length_three, hlen], encode_instrOf op b2 b3⟩

/-- Settles O3: three bytes are enough for every opcode byte, and too few are rejected by its name. -/
theorem decodingIsTotalOnTheOpcodeByte : Obligations.DecodingIsTotalOnTheOpcodeByte :=
  ⟨exists_decode_triple, fun _ _ => decode_truncated⟩

/-! #### Fixed words and counts -/

/-- Settles O4: the counts of R70 and R78, by evaluation over the 256 byte values. -/
theorem opcodeLengthsAreCounted : Obligations.OpcodeLengthsAreCounted := ⟨rfl, rfl, rfl⟩

/-- Settles O5: each word is the encoding of its instruction by evaluation, so the round trip decodes it. -/
theorem writtenOutWordsDecode : Obligations.WrittenOutWordsDecode :=
  ⟨decode_encode .movBC [], decode_encode .movAM [], decode_encode (.mviM 0xFF) [], decode_encode (.lxiH 0x0103) [],
   decode_encode (.sta 0x05B3) [], decode_encode .addD [], decode_encode (.sbi 0x01) [], decode_encode .dadSP [],
   decode_encode .anaM [], decode_encode .rar [], decode_encode .pushPSW [], decode_encode (.cc 0x2000) [],
   decode_encode .rst3 [], decode_encode (.outPort 0x10) [], decode_encode .hlt [], decode_encode .undocCB []⟩

end Sys2Proof

/-! ### Fetching encoded bytes (30_encoding.md R70, R80; 60_exceptions.md R240, R242)

What `HasCode` asks of an instruction and its bytes holds of every row: the fetch reads what `decode` would, so the round
trip `decode_encode` carries over to a step. -/

namespace Sys2Proof.Machine

variable {i : Instr} {bytes : List Byte} {s : State}

/-- A byte string that is one whole instruction: its length, and the instruction as the decoder reads it, where a byte
it does not have counts as 0. -/
theorem decode_eq_ok_nil (h : decode bytes = .ok (i, [])) :
    opcodeLength (bytes.getD 0 0) = bytes.length ∧
      i = instrOf (bytes.getD 0 0) (bytes.getD 1 0) (bytes.getD 2 0) := by
  obtain ⟨op, b2, b3, -, hbytes⟩ := decode_eq_ok h
  obtain hlen | hlen | hlen := opcodeLength_cases op
  · obtain rfl : bytes = [op] := by simpa [hlen] using hbytes
    rw [decode_of_length_one hlen] at h
    cases h
    exact ⟨hlen, rfl⟩
  · obtain rfl : bytes = [op, b2] := by simpa [hlen] using hbytes
    rw [decode_of_length_two hlen] at h
    cases h
    exact ⟨hlen, rfl⟩
  · obtain rfl : bytes = [op, b2, b3] := by simpa [hlen] using hbytes
    rw [decode_of_length_three hlen] at h
    cases h
    exact ⟨hlen, rfl⟩

/-- A fetch that finds the bytes of an instruction, all inside memory, is that instruction. -/
theorem fetchInstr_of_decode (hdecode : decode bytes = .ok (i, []))
    (hread : ∀ k < bytes.length, s.mem.read (s.pc.toNat + k) = bytes.getD k 0)
    (hfits : s.pc.toNat + bytes.length ≤ s.cfg.memSize) : fetchInstr s = .ok i := by
  obtain ⟨hlen, rfl⟩ := decode_eq_ok_nil hdecode
  have hcases := opcodeLength_cases (bytes.getD 0 0)
  have hop : s.mem.read s.pc.toNat = bytes.getD 0 0 := hread 0 (by omega)
  have hb2 : (if 2 ≤ bytes.length then s.mem.read (s.pc.toNat + 1) else 0) = bytes.getD 1 0 := by
    split
    · exact hread 1 (by omega)
    · exact (List.getD_eq_default _ _ (by omega)).symm
  have hb3 : (if bytes.length = 3 then s.mem.read (s.pc.toNat + 2) else 0) = bytes.getD 2 0 := by
    split
    · exact hread 2 (by omega)
    · exact (List.getD_eq_default _ _ (by omega)).symm
  rw [fetchInstr_inside s (by rwa [hop, hlen]), hop, hlen, hb2, hb3]

theorem fetchInstr_opcode_outside (h : s.cfg.memSize ≤ s.pc.toNat) :
    fetchInstr s = .error (.outOfBoundsAccess s.pc.toNat) := by
  simp [fetchInstr, s.fetchByte_outside (k := 0) h]

/-- The first immediate byte outside memory ends the fetch. -/
theorem fetchInstr_immediate_outside {k : Nat} (hk : 0 < k) (hlen : k < opcodeLength (s.mem.read s.pc.toNat))
    (hout : s.pc.toNat + k = s.cfg.memSize) : fetchInstr s = .error (.outOfBoundsAccess (s.pc.toNat + k)) := by
  have hop : s.fetchByte 0 = .ok (s.mem.read s.pc.toNat) := s.fetchByte_inside (by omega)
  have herr := s.fetchByte_outside hout.ge
  obtain hlen' | hlen' | hlen' := opcodeLength_cases (s.mem.read s.pc.toNat)
  · omega
  · obtain rfl : k = 1 := by omega
    simp [fetchInstr, hop, hlen', herr]
  · obtain rfl | rfl : k = 1 ∨ k = 2 := by omega
    · simp [fetchInstr, hop, hlen', herr]
    · simp [fetchInstr, hop, hlen', s.fetchByte_inside (k := 1) (by omega), herr]

/-- `HasCode` is about the encoder alone: the fetch part of it holds of every row. -/
theorem hasCode_of_encode_eq (hencode : encode i = bytes) : HasCode i bytes := by
  have hdecode : decode bytes = .ok (i, []) := by
    rw [← hencode, ← List.append_nil (encode i)]
    exact decode_encode i []
  refine ⟨hencode, fun s hrun hread => ⟨fun hfits => ?_, fun hout => ?_, fun k hk hlt hout => ?_⟩⟩
  · rw [step_running s hrun, fetchInstr_of_decode hdecode (fun k hk => hread k hk (by omega)) hfits, andThen_ok]
  · rw [step_running s hrun, fetchInstr_opcode_outside hout, andThen_error]
  · have hop : s.mem.read s.pc.toNat = bytes.getD 0 0 := hread 0 (by omega) (by omega)
    have hlen : k < opcodeLength (s.mem.read s.pc.toNat) := by rwa [hop, (decode_eq_ok_nil hdecode).1]
    rw [step_running s hrun, fetchInstr_immediate_outside hk hlen hout, andThen_error]

end Sys2Proof.Machine

/-! ### Data transfer (40_data_transfer.md)

Every instruction of the family writes its destination, ends with `State.retire` and keeps the rest, which `Transfers`
says once. The memory forms are four shapes: a byte loaded or stored, a pair loaded or stored. -/

namespace Sys2Proof.Machine

variable {s u : State} {regs : List Reg8} {addrs : List Nat} {len : Nat} {o : Out}

/-! #### The bytes of the rows named by their fields (30_encoding.md R80) -/

theorem encode_mov (dst src : Reg8) :
    encode (Instr.mov dst src) = [BitVec.ofNat 8 (64 + 8 * codeOfReg dst + codeOfReg src)] := by
  cases dst <;> cases src <;> rfl

theorem encode_movFromM (dst : Reg8) : encode (Instr.movFromM dst) = [BitVec.ofNat 8 (64 + 8 * codeOfReg dst + 6)] := by
  cases dst <;> rfl

theorem encode_movToM (src : Reg8) : encode (Instr.movToM src) = [BitVec.ofNat 8 (112 + codeOfReg src)] := by
  cases src <;> rfl

theorem encode_mvi (dst : Reg8) (v : Byte) : encode (Instr.mvi dst v) = [BitVec.ofNat 8 (8 * codeOfReg dst + 6), v] := by
  cases dst <;> rfl

theorem encode_lxi (q : Pair16) (w : Word) :
    encode (Instr.lxi q w) = [BitVec.ofNat 8 (16 * codeOfPair q + 1), loByte w, hiByte w] := by
  cases q <;> rfl

theorem encode_ldax (p : IndPair) : encode (Instr.ldax p) = [BitVec.ofNat 8 (16 * codeOfIndPair p + 10)] := by
  cases p <;> rfl

theorem encode_stax (p : IndPair) : encode (Instr.stax p) = [BitVec.ofNat 8 (16 * codeOfIndPair p + 2)] := by
  cases p <;> rfl

/-! #### The frame -/

/-- Ending an instruction that wrote registers, memory or `SP` only. -/
theorem retire_keeps (hu : u = { s with regs := u.regs, mem := u.mem, sp := u.sp }) (hregs : KeepsRegsBut regs s u)
    (hmem : KeepsMemBut addrs s u) :
    KeepsAllBut regs addrs s (u.retire len) ∧ KeepsFlags s (u.retire len) ∧ ExecutedPast len s (u.retire len) := by
  rw [hu] at hregs hmem ⊢
  exact ⟨⟨hregs, hmem, ⟨rfl, rfl⟩, rfl, rfl, rfl, rfl⟩, rfl, rfl, rfl, rfl⟩

/-- What the claims about a data transfer of length `len` have in common: only the listed registers and bytes change. -/
def Transfers (regs : List Reg8) (addrs : List Nat) (len : Nat) (s t : State) : Prop :=
  KeepsAllBut regs addrs s t ∧ KeepsFlags s t ∧ KeepsSp s t ∧ ExecutedPast len s t

theorem transfers_retire (hu : u = { s with regs := u.regs, mem := u.mem }) (hregs : KeepsRegsBut regs s u)
    (hmem : KeepsMemBut addrs s u) : Transfers regs addrs len s (u.retire len) := by
  have hsp : u.sp = s.sp := by rw [hu]
  obtain ⟨hall, hflags, hpast⟩ := retire_keeps (len := len) (by rwa [hsp]) hregs hmem
  exact ⟨hall, hflags, hsp, hpast⟩

theorem transfers_setReg (r : Reg8) (v : Byte) : Transfers [r] [] len s ((s.setReg r v).retire len) :=
  transfers_retire rfl (keepsRegsBut_setReg s r v) (keepsMemBut_of_mem_eq rfl)

/-! #### Registers and immediates -/

/-- Settles O25: the destination reads back what the source held before the write. -/
theorem movCopiesARegister : Obligations.MovCopiesARegister := fun dst src s =>
  ⟨hasCode_of_encode_eq (encode_mov dst src), _, exec_mov s dst src, s.reg_setReg_same .., transfers_setReg ..⟩

/-- Settles O28: the register write of O25 with the immediate as its value. -/
theorem mviLoadsARegister : Obligations.MviLoadsARegister := fun dst v s =>
  ⟨hasCode_of_encode_eq (encode_mvi dst v), _, exec_mvi s dst v, s.reg_setReg_same .., transfers_setReg ..⟩

/-- Settles O29: `SP` as the destination is the one case that does not keep `SP`. -/
theorem lxiLoadsAPair : Obligations.LxiLoadsAPair := by
  intro q w s
  have hu : s.setPair16 q w =
      { s with regs := (s.setPair16 q w).regs, mem := (s.setPair16 q w).mem, sp := (s.setPair16 q w).sp } := by
    cases q <;> rfl
  exact ⟨hasCode_of_encode_eq (encode_lxi q w), _, exec_lxi s q w, by simp, s.setPair16_sp w,
    retire_keeps hu (keepsRegsBut_setPair16 s q w) (keepsMemBut_of_mem_eq (s.setPair16_mem q w))⟩

/-! #### One byte of memory -/

/-- The byte at `n` loaded into `r`. -/
theorem load_inside {r : Reg8} {n : Nat} (ho : o = andThen (s.memRead n) fun v => .next ((s.setReg r v).retire len))
    (h : n < s.cfg.memSize) : ∃ t, o = .next t ∧ t.reg r = s.mem.read n ∧ Transfers [r] [] len s t := by
  rw [s.memRead_nat h, andThen_ok] at ho
  exact ⟨_, ho, s.reg_setReg_same .., transfers_setReg ..⟩

theorem load_outside {n : Nat} {k : Byte → Out} (ho : o = andThen (s.memRead n) k) (h : s.cfg.memSize ≤ n) :
    o = .fault (.outOfBoundsAccess n) := by
  rw [ho, s.memRead_nat_outside h, andThen_error]

/-- `v` stored at `n`. -/
theorem store_inside {v : Byte} {n : Nat} (hi : s.Inv = true)
    (ho : o = andThen (s.memWrite n v) fun t => .next (t.retire len)) (h : n < s.cfg.memSize) :
    ∃ t, o = .next t ∧ t.mem.read n = v ∧ Transfers [] [n] len s t := by
  rw [s.memWrite_nat v h, andThen_ok] at ho
  exact ⟨_, ho, Memory.read_write_same (State.Inv.mem_wf hi) n v,
    transfers_retire rfl (keepsRegsBut_of_regs_eq rfl) (keepsMemBut_write rfl)⟩

theorem store_outside {v : Byte} {n : Nat} {k : State → Out} (ho : o = andThen (s.memWrite n v) k)
    (h : s.cfg.memSize ≤ n) : o = .fault (.outOfBoundsAccess n) := by
  rw [ho, s.memWrite_nat_outside v h, andThen_error]

/-- Settles O26: the address is read before the destination is written, so `H` and `L` are no exception. -/
theorem movLoadsThroughHl : Obligations.MovLoadsThroughHl := fun dst s =>
  ⟨hasCode_of_encode_eq (encode_movFromM dst), load_inside (exec_movFromM s dst), load_outside (exec_movFromM s dst)⟩

/-- Settles O27: both rows are the one store, at the old `HL`. -/
theorem movAndMviStoreThroughHl : Obligations.MovAndMviStoreThroughHl := fun s hi =>
  ⟨fun src => ⟨hasCode_of_encode_eq (encode_movToM src), store_inside hi (exec_movToM s src),
      store_outside (exec_movToM s src)⟩,
    fun v => ⟨hasCode_of_encode_eq rfl, store_inside (o := exec (.mviM v) s) hi rfl,
      store_outside (o := exec (.mviM v) s) rfl⟩⟩

/-- Settles O30: the load and the store, at the immediate. -/
theorem ldaAndStaUseADirectAddress : Obligations.LdaAndStaUseADirectAddress := fun s w hi =>
  ⟨hasCode_of_encode_eq rfl, hasCode_of_encode_eq rfl,
    fun h => ⟨load_inside (o := exec (.lda w) s) rfl h, store_inside (o := exec (.sta w) s) hi rfl h⟩,
    fun h => ⟨load_outside (o := exec (.lda w) s) rfl h, store_outside (o := exec (.sta w) s) rfl h⟩⟩

/-- Settles O32: the load and the store, at the pair; neither writes it. -/
theorem ldaxAndStaxUseAPairAsAddress : Obligations.LdaxAndStaxUseAPairAsAddress := fun p s hi =>
  ⟨hasCode_of_encode_eq (encode_ldax p), hasCode_of_encode_eq (encode_stax p),
    fun h => ⟨load_inside (exec_ldax s p) h, store_inside hi (exec_stax s p) h⟩,
    fun h => ⟨load_outside (exec_ldax s p) h, store_outside (exec_stax s p) h⟩⟩

/-! #### Pairs -/

theorem exec_lhld (w : Word) (s : State) :
    exec (.lhld w) s = andThen (s.memRead16 w.toNat) fun v => .next ((s.setPair .hl v).retire 3) := rfl

theorem exec_shld (w : Word) (s : State) :
    exec (.shld w) s = andThen (s.memWrite16 w.toNat s.hl) fun t => .next (t.retire 3) := rfl

theorem lhld_inside {w : Word} (h : w.toNat + 1 < s.cfg.memSize) :
    ∃ t, exec (.lhld w) s = .next t ∧ t.reg .l = s.mem.read w.toNat ∧ t.reg .h = s.mem.read (w.toNat + 1) ∧
      Transfers [.h, .l] [] 3 s t := by
  rw [exec_lhld, s.memRead16_nat h, andThen_ok]
  exact ⟨_, rfl, (s.reg_setPair_lo .hl _).trans (loByte_joinBytes ..),
    (s.reg_setPair_hi .hl _).trans (hiByte_joinBytes ..),
    transfers_retire rfl (keepsRegsBut_setPair s .hl _) (keepsMemBut_of_mem_eq rfl)⟩

theorem shld_inside {w : Word} (hi : s.Inv = true) (h : w.toNat + 1 < s.cfg.memSize) :
    ∃ t, exec (.shld w) s = .next t ∧ t.mem.read w.toNat = s.reg .l ∧ t.mem.read (w.toNat + 1) = s.reg .h ∧
      Transfers [] [w.toNat, w.toNat + 1] 3 s t := by
  have hwf := State.Inv.mem_wf hi
  rw [exec_shld, s.memWrite16_nat _ h, andThen_ok, s.hl_eq, hiByte_joinBytes, loByte_joinBytes]
  refine ⟨_, rfl, ?_, ?_, transfers_retire rfl (keepsRegsBut_of_regs_eq rfl) (keepsMemBut_write_write rfl)⟩
  · rw [State.retire_mem, Memory.read_write_ne _ _ (by omega), Memory.read_write_same hwf]
  · rw [State.retire_mem, Memory.read_write_same (Memory.write_wf hwf _ (by omega))]

/-- Settles O31: both accesses check the first address before the second, and fault before anything is written. -/
theorem lhldAndShldMoveAPair : Obligations.LhldAndShldMoveAPair := by
  refine fun s w hi => ⟨hasCode_of_encode_eq rfl, hasCode_of_encode_eq rfl, fun h => ⟨lhld_inside h, shld_inside hi h⟩,
    fun h => ⟨?_, ?_⟩, fun h => ⟨?_, ?_⟩⟩
  · rw [exec_lhld, s.memRead16_low_outside h, andThen_error]
  · rw [exec_shld, s.memWrite16_low_outside _ h, andThen_error]
  · rw [exec_lhld, s.memRead16_high_outside h, andThen_error]
  · rw [exec_shld, s.memWrite16_high_outside _ h, andThen_error]

/-- The register whose value `XCHG` (R112) moves into a register. -/
def xchgSource : Reg8 → Reg8
  | .d => .h | .e => .l | .h => .d | .l => .e
  | .a => .a | .b => .b | .c => .c

theorem xchgSource_xchgSource (r : Reg8) : xchgSource (xchgSource r) = r := by cases r <;> rfl

theorem xchgSource_of_not_mem {r : Reg8} (h : r ∉ [Reg8.h, .l, .d, .e]) : xchgSource r = r := by
  cases r with
  | a | b | c => rfl
  | d | e | h | l => simp at h

/-- `XCHG` as a permutation of the registers. -/
theorem exec_xchg (s : State) :
    ∃ t, exec .xchg s = .next t ∧ (∀ r, t.reg r = s.reg (xchgSource r)) ∧ Transfers [.h, .l, .d, .e] [] 1 s t := by
  have hreg (r : Reg8) : ((s.setPair .hl (s.pair .de)).setPair .de (s.pair .hl)).reg r = s.reg (xchgSource r) := by
    cases r with
    | a | b | c => rfl
    | d | h => exact hiByte_joinBytes ..
    | e | l => exact loByte_joinBytes ..
  exact ⟨_, rfl, hreg, transfers_retire rfl (fun r hr => by rw [hreg, xchgSource_of_not_mem hr])
    (keepsMemBut_of_mem_eq rfl)⟩

/-- Settles O33: the permutation swaps the two pairs and is its own inverse. -/
theorem xchgSwapsHlAndDe : Obligations.XchgSwapsHlAndDe := by
  intro s
  obtain ⟨t, ht, hreg, hkeep, hflags, hsp, hpast⟩ := exec_xchg s
  obtain ⟨u, hu, hreg', -⟩ := exec_xchg t
  refine ⟨hasCode_of_encode_eq rfl, t, ht, congrArg₂ joinBytes (hreg .h) (hreg .l),
    congrArg₂ joinBytes (hreg .d) (hreg .e), hkeep, hflags, hsp, hpast, u, hu, fun r _ => ?_⟩
  rw [hreg', hreg, xchgSource_xchgSource]

end Sys2Proof.Machine

/-! ### Arithmetic (41_arithmetic.md)

Every instruction of the family reads its operands, applies one function of Machine/Flags.lean and ends with
`State.retire`. `Computes` says once what it keeps; what the function computes is cited from Laws/Flags.lean. -/

namespace Sys2Proof.Machine

variable {s u : State} {regs : List Reg8} {addrs : List Nat} {len : Nat} {op : AluOp} {src : Src8} {v : Byte}
  {o : Out}

/-! #### The bytes of the rows named by their fields (30_encoding.md R80, R81) -/

theorem encode_alu (op : AluOp) (src : Src8) : encode (Instr.alu op src) = aluBytes op src := by
  rcases src with r | _ | v
  · cases op <;> cases r <;> rfl
  · cases op <;> rfl
  · cases op <;> rfl

theorem encode_inr (r : Reg8) : encode (Instr.inr r) = [BitVec.ofNat 8 (8 * codeOfReg r + 4)] := by cases r <;> rfl

theorem encode_dcr (r : Reg8) : encode (Instr.dcr r) = [BitVec.ofNat 8 (8 * codeOfReg r + 5)] := by cases r <;> rfl

theorem encode_inx (q : Pair16) : encode (Instr.inx q) = [BitVec.ofNat 8 (16 * codeOfPair q + 3)] := by cases q <;> rfl

theorem encode_dcx (q : Pair16) : encode (Instr.dcx q) = [BitVec.ofNat 8 (16 * codeOfPair q + 11)] := by cases q <;> rfl

theorem encode_dad (q : Pair16) : encode (Instr.dad q) = [BitVec.ofNat 8 (16 * codeOfPair q + 9)] := by cases q <;> rfl

/-! #### The frame -/

/-- What the claims about an instruction that writes flags have in common: beside the flags, only the listed registers
and bytes change. -/
def Computes (regs : List Reg8) (addrs : List Nat) (len : Nat) (s t : State) : Prop :=
  KeepsAllBut regs addrs s t ∧ KeepsSp s t ∧ ExecutedPast len s t

theorem computes_retire (hu : u = { s with regs := u.regs, mem := u.mem, flags := u.flags })
    (hregs : KeepsRegsBut regs s u) (hmem : KeepsMemBut addrs s u) : Computes regs addrs len s (u.retire len) := by
  rw [hu] at hregs hmem ⊢
  exact ⟨⟨hregs, hmem, ⟨rfl, rfl⟩, rfl, rfl, rfl, rfl⟩, rfl, rfl, rfl, rfl⟩

/-- A register and the flags written with the two parts of a result, of which `P` holds. -/
theorem result_next {P : Byte → Flags → Prop} {res : Byte × Flags} {r : Reg8}
    (ho : o = .next (((s.setReg r res.1).setFlags res.2).retire len)) (hP : P res.1 res.2) :
    ∃ t, o = .next t ∧ P (t.reg r) t.flags ∧ Computes [r] [] len s t :=
  ⟨_, ho, by simpa using hP,
    computes_retire rfl (keepsRegsBut_setReg s r res.1) (keepsMemBut_of_mem_eq rfl)⟩

/-! #### The adder and the subtractor (R120, R121) -/

/-- What R120 says of `a + b + cin`: the result `y` and the flags `g`. -/
def SumOf (a b : Byte) (cin : Nat) (y : Byte) (g : Flags) : Prop :=
  y.toNat = (a.toNat + b.toNat + cin) % 256 ∧ (g.cy = true ↔ a.toNat + b.toNat + cin > 255) ∧
    (g.ac = true ↔ a.toNat % 16 + b.toNat % 16 + cin > 15) ∧ ZspOf y g

/-- What R121 says of `a - b - bin`. -/
def DifferenceOf (a b : Byte) (bin : Nat) (y : Byte) (g : Flags) : Prop :=
  (y.toNat : Int) = (a.toNat - b.toNat - bin : Int) % 256 ∧ (g.cy = true ↔ a.toNat < b.toNat + bin) ∧
    (g.ac = true ↔ a.toNat % 16 ≥ b.toNat % 16 + bin) ∧ ZspOf y g

theorem aluAdd_sumOf (a b : Byte) (c : Bool) (f : Flags) : SumOf a b c.toNat (aluAdd a b c f).1 (aluAdd a b c f).2 :=
  ⟨aluAdd_toNat .., by simp, by simp, zspOf_setZSP ..⟩

theorem aluSub_differenceOf (a b : Byte) (c : Bool) (f : Flags) :
    DifferenceOf a b c.toNat (aluSub a b c f).1 (aluSub a b c f).2 :=
  ⟨aluSub_toNat .., by simp, by simp, zspOf_setZSP ..⟩

/-- `CY` as the number that is carried or borrowed in. -/
theorem ite_cy (f : Flags) : (if f.cy = true then 1 else 0) = f.cy.toNat := by cases f.cy <;> rfl

theorem aluFunction_sumOf (hop : op = .add ∨ op = .adc) (a b : Byte) (f : Flags) :
    SumOf a b (if op = .adc ∧ f.cy = true then 1 else 0) (aluFunction op a b f).1 (aluFunction op a b f).2 := by
  obtain rfl | rfl := hop
  · exact aluAdd_sumOf a b false f
  · simpa [ite_cy, aluFunction] using aluAdd_sumOf a b f.cy f

theorem aluFunction_differenceOf (hop : op = .sub ∨ op = .sbb) (a b : Byte) (f : Flags) :
    DifferenceOf a b (if op = .sbb ∧ f.cy = true then 1 else 0) (aluFunction op a b f).1 (aluFunction op a b f).2 := by
  obtain rfl | rfl := hop
  · exact aluSub_differenceOf a b false f
  · simpa [ite_cy, aluFunction] using aluSub_differenceOf a b f.cy f

/-! #### The accumulator and an operand (R123 to R134, R146 to R148) -/

/-- Every ALU row but compare, on an operand: what holds of its function's answer holds of `A` and the flags. -/
theorem alu_inside {P : Byte → Flags → Prop} (hop : op ≠ .cmp) (hv : HasOperand s src v)
    (hP : P (aluFunction op (s.reg .a) v s.flags).1 (aluFunction op (s.reg .a) v s.flags).2) :
    ∃ t, exec (Instr.alu op src) s = .next t ∧ P (t.reg .a) t.flags ∧ Computes [.a] [] (srcLen src) s t := by
  refine result_next ?_ hP
  rw [exec_alu_into s src hop, intoAccumulator, hv.src8_eq, andThen_ok]

/-- Compare is the subtraction whose result is not written. -/
theorem cmp_inside (hv : HasOperand s src v) :
    ∃ t, exec (Instr.alu .cmp src) s = .next t ∧ t.flags = (aluSub (s.reg .a) v false s.flags).2 ∧
      Computes [] [] (srcLen src) s t := by
  rw [exec_alu, aluMeaning, compareWith, hv.src8_eq, andThen_ok]
  exact ⟨_, rfl, rfl, computes_retire rfl (keepsRegsBut_of_regs_eq rfl) (keepsMemBut_of_mem_eq rfl)⟩

/-- Every ALU row reads its operand first, so the form on `M` faults with nothing done. -/
theorem alu_outside (op : AluOp) (hsrc : src = .m) (h : s.cfg.memSize ≤ s.hl.toNat) :
    exec (Instr.alu op src) s = .fault (.outOfBoundsAccess s.hl.toNat) := by
  have hread : ∃ k, aluMeaning op src s = andThen (s.src8 src) k := by cases op <;> exact ⟨_, rfl⟩
  subst hsrc
  rw [exec_alu]
  exact load_outside hread.choose_spec h

/-- Settles O34: the adder, whose carry-in the operation code chooses. -/
theorem addAndAdcFollowTheAdder : Obligations.AddAndAdcFollowTheAdder := by
  refine fun op src s hop => ⟨hasCode_of_encode_eq (encode_alu op src), fun v cin hv hcin => ?_, alu_outside op⟩
  have hcmp : op ≠ .cmp := by rintro rfl; simp at hop
  obtain ⟨t, ht, ⟨hsum, hcy, hac, hzsp⟩, hkeep⟩ := alu_inside hcmp hv (aluFunction_sumOf hop (s.reg .a) v s.flags)
  exact hcin ▸ ⟨t, ht, hsum, hcy, hac, hzsp, hkeep⟩

/-- Settles O35: the subtractor, whose borrow-in the operation code chooses. -/
theorem subAndSbbFollowTheSubtractor : Obligations.SubAndSbbFollowTheSubtractor := by
  refine fun op src s hop => ⟨hasCode_of_encode_eq (encode_alu op src), fun v bin hv hbin => ?_, alu_outside op⟩
  have hcmp : op ≠ .cmp := by rintro rfl; simp at hop
  obtain ⟨t, ht, ⟨hdiff, hcy, hac, hzsp⟩, hkeep⟩ :=
    alu_inside hcmp hv (aluFunction_differenceOf hop (s.reg .a) v s.flags)
  exact hbin ▸ ⟨t, ht, hdiff, hcy, hac, hzsp, hkeep⟩

/-- Settles O36: the difference is the one `SUB` writes, and stays unwritten. -/
theorem compareSetsFlagsOfTheDifference : Obligations.CompareSetsFlagsOfTheDifference := by
  refine fun src s => ⟨hasCode_of_encode_eq (encode_alu .cmp src), fun v hv => ?_, alu_outside .cmp⟩
  obtain ⟨t, ht, hf, hkeep⟩ := cmp_inside hv
  obtain ⟨hdiff, hcy, hac, hzsp⟩ := aluSub_differenceOf (s.reg .a) v false s.flags
  rw [← hf] at hcy hac hzsp
  exact ⟨t, _, ht, by simpa using hdiff, hzsp, hcy, hac, hkeep⟩

/-! #### Steps by one (R135 to R139) -/

/-- What R135 says of `inr8` on `x` with flags `f`: the result `y` and the flags `g`. -/
def IncrementOf (x : Byte) (f : Flags) (y : Byte) (g : Flags) : Prop :=
  y.toNat = (x.toNat + 1) % 256 ∧ ZspOf y g ∧ (g.ac = true ↔ x.toNat % 16 = 15) ∧ g.cy = f.cy

/-- What R135 says of `dcr8`. -/
def DecrementOf (x : Byte) (f : Flags) (y : Byte) (g : Flags) : Prop :=
  (y.toNat : Int) = (x.toNat - 1 : Int) % 256 ∧ ZspOf y g ∧ (g.ac = true ↔ x.toNat % 16 ≠ 0) ∧ g.cy = f.cy

theorem inr8_incrementOf (x : Byte) (f : Flags) : IncrementOf x f (inr8 x f).1 (inr8 x f).2 :=
  ⟨inr8_toNat .., zspOf_setZSP .., by simp, rfl⟩

theorem dcr8_decrementOf (x : Byte) (f : Flags) : DecrementOf x f (dcr8 x f).1 (dcr8 x f).2 := by
  refine ⟨?_, zspOf_setZSP .., by simp, rfl⟩
  rw [dcr8_toNat]
  omega

theorem stepMem_inside {f : Byte → Flags → Byte × Flags} {P : Byte → Flags → Prop} (hi : s.Inv = true)
    (h : s.hl.toNat < s.cfg.memSize)
    (hP : P (f (s.mem.read s.hl.toNat) s.flags).1 (f (s.mem.read s.hl.toNat) s.flags).2) :
    ∃ t, stepMem f s = .next t ∧ P (t.mem.read s.hl.toNat) t.flags ∧ Computes [] [s.hl.toNat] 1 s t := by
  rw [stepMem, s.memRead_nat h, andThen_ok, s.memWrite_nat _ h, andThen_ok]
  refine ⟨_, rfl, ?_, computes_retire rfl (keepsRegsBut_of_regs_eq rfl) (keepsMemBut_write rfl)⟩
  simpa [Memory.read_write_same (State.Inv.mem_wf hi)] using hP

/-- Settles O38: both rows are the one step of a register. -/
theorem inrAndDcrStepARegister : Obligations.InrAndDcrStepARegister := by
  intro r s
  obtain ⟨t, ht, ⟨hsum, hzsp, hac, hcy⟩, hkeep⟩ := result_next (exec_inr s r) (inr8_incrementOf (s.reg r) s.flags)
  obtain ⟨u, hu, ⟨hdiff, hzsp', hac', hcy'⟩, hkeep'⟩ := result_next (exec_dcr s r) (dcr8_decrementOf (s.reg r) s.flags)
  exact ⟨hasCode_of_encode_eq (encode_inr r), hasCode_of_encode_eq (encode_dcr r),
    ⟨t, ht, hsum, hzsp, hac, hcy, hkeep⟩,
    ⟨u, hu, hdiff, hzsp', hac', hcy', hkeep'⟩⟩

/-- Settles O39: the byte is read and written at one address, so only the read can fault. -/
theorem inrAndDcrStepTheByteAtHl : Obligations.InrAndDcrStepTheByteAtHl := by
  refine fun s hi => ⟨hasCode_of_encode_eq rfl, hasCode_of_encode_eq rfl, fun h => ?_, fun h =>
    ⟨load_outside (o := exec .inrM s) rfl h, load_outside (o := exec .dcrM s) rfl h⟩⟩
  obtain ⟨t, ht, ⟨hsum, hzsp, hac, hcy⟩, hkeep⟩ :=
    stepMem_inside hi h (inr8_incrementOf (s.mem.read s.hl.toNat) s.flags)
  obtain ⟨u, hu, ⟨hdiff, hzsp', hac', hcy'⟩, hkeep'⟩ :=
    stepMem_inside hi h (dcr8_decrementOf (s.mem.read s.hl.toNat) s.flags)
  exact ⟨⟨t, ht, hsum, hzsp, hac, hcy, hkeep⟩, ⟨u, hu, hdiff, hzsp', hac', hcy', hkeep'⟩⟩

/-! #### Pairs (R140 to R142) -/

/-- Ending an instruction that wrote a pair operand only. -/
theorem setPair16_retire_keeps (s : State) (q : Pair16) (w : Word) (len : Nat) :
    (q ≠ .sp → KeepsSp s ((s.setPair16 q w).retire len)) ∧
      KeepsAllBut (regsOfPair q) [] s ((s.setPair16 q w).retire len) ∧
      KeepsFlags s ((s.setPair16 q w).retire len) ∧ ExecutedPast len s ((s.setPair16 q w).retire len) := by
  refine ⟨s.setPair16_sp w, retire_keeps ?_ (keepsRegsBut_setPair16 s q w)
    (keepsMemBut_of_mem_eq (s.setPair16_mem q w))⟩
  cases q <;> rfl

/-- Settles O40: the pair reads back the stepped word, and 16-bit arithmetic wraps as R140 and R141 say. -/
theorem inxAndDcxStepAPair : Obligations.InxAndDcxStepAPair := by
  refine fun q s => ⟨hasCode_of_encode_eq (encode_inx q), hasCode_of_encode_eq (encode_dcx q),
    ⟨_, exec_inx s q, ?_, setPair16_retire_keeps s q _ 1⟩, ⟨_, exec_dcx s q, ?_, setPair16_retire_keeps s q _ 1⟩⟩
  · rw [State.pair16_retire, State.pair16_setPair16]
    bv_omega
  · rw [State.pair16_retire, State.pair16_setPair16]
    bv_omega

/-- Settles O41: `HL` reads back the sum, and no flag but `CY` is written. -/
theorem dadAddsIntoHl : Obligations.DadAddsIntoHl := by
  refine fun q s => ⟨hasCode_of_encode_eq (encode_dad q), _, exec_dad s q, ?_, ?_, rfl,
    computes_retire rfl (keepsRegsBut_setPair s .hl _) (keepsMemBut_of_mem_eq rfl)⟩
  · rw [State.hl_retire, State.hl_setFlags, ← addPair_toNat s.flags]
    exact congrArg _ (s.pair_setPair .hl _)
  · simp

/-! #### The decimal correction (R143) -/

theorem daaCorrection_of_high {a : Byte} {f : Flags}
    (h : f.cy = true ∨ a.toNat / 16 > 9 ∨ (a.toNat / 16 ≥ 9 ∧ lowNibble a > 9)) :
    (daaCorrection a f).1.toNat = (if f.ac = true ∨ lowNibble a > 9 then 6 else 0) + 96 ∧
      (daaCorrection a f).2 = true := by
  simp only [daaCorrection, if_pos h, and_true]
  split <;> rfl

theorem daaCorrection_of_not_high {a : Byte} {f : Flags}
    (h : ¬ (f.cy = true ∨ a.toNat / 16 > 9 ∨ (a.toNat / 16 ≥ 9 ∧ lowNibble a > 9))) :
    (daaCorrection a f).1.toNat = (if f.ac = true ∨ lowNibble a > 9 then 6 else 0) ∧
      (daaCorrection a f).2 = f.cy := by
  simp only [daaCorrection, if_neg h, and_true]
  split <;> rfl

/-- What R143 says of `DAA` on `a` once the correction and whether it has a high part are known. -/
def CorrectedBy (a : Byte) (f : Flags) (corr : Nat) (high : Prop) (y : Byte) (g : Flags) : Prop :=
  y.toNat = (a.toNat + corr) % 256 ∧ ZspOf y g ∧ (g.ac = true ↔ a.toNat % 16 + corr % 16 > 15) ∧
    (g.cy = true ↔ high ∨ f.cy = true)

/-- The correcting addition is the adder's; only its `CY` is replaced. -/
theorem decimalAdjust_correctedBy {a : Byte} {f : Flags} {high : Prop}
    (hcy : (daaCorrection a f).2 = true ↔ high ∨ f.cy = true) :
    CorrectedBy a f (daaCorrection a f).1.toNat high (decimalAdjust a f).1 (decimalAdjust a f).2 := by
  obtain ⟨hsum, -, hac, hzsp⟩ := aluAdd_sumOf a (daaCorrection a f).1 false f
  exact ⟨hsum, hzsp, hac, hcy⟩

/-- Settles O42: whether the high correction is made decides both the correction and the new `CY`. -/
theorem daaAddsTheDecimalCorrection : Obligations.DaaAddsTheDecimalCorrection := by
  rintro s _ _ corr high rfl rfl hhigh hcorr hcorr'
  have hdaa : (daaCorrection (s.reg .a) s.flags).1.toNat = corr ∧
      ((daaCorrection (s.reg .a) s.flags).2 = true ↔ high ∨ s.flags.cy = true) := by
    by_cases h : high
    · obtain ⟨hval, hcy⟩ := daaCorrection_of_high (hhigh.mp h)
      exact ⟨hval.trans (hcorr h).symm, by simp [hcy, h]⟩
    · obtain ⟨hval, hcy⟩ := daaCorrection_of_not_high (mt hhigh.mpr h)
      exact ⟨hval.trans (hcorr' h).symm, by simp [hcy, h]⟩
  obtain ⟨rfl, hcy⟩ := hdaa
  obtain ⟨t, ht, ⟨hsum, hzsp, hac, hcy⟩, hkeep⟩ :=
    result_next (o := exec .daa s) rfl (decimalAdjust_correctedBy hcy)
  exact ⟨hasCode_of_encode_eq rfl, t, ht, hsum, hzsp, hac, hcy, hkeep⟩

end Sys2Proof.Machine

/-! ### Logic (42_logical.md)

The logical rows are ALU rows, so their frame is `alu_inside` and their fault `alu_outside`; what is new is the three
bitwise functions of Machine/Flags.lean, of which `LogicOf` says what R160 says. -/

namespace Sys2Proof.Machine

variable {s : State} {len : Nat} {op : AluOp} {o : Out}

/-! #### And, exclusive or, or (R160 to R169) -/

/-- What R160 says of the operation `op` on `a` and `b`: the result `y` bit by bit and the flags `g`. -/
def LogicOf (op : AluOp) (a b y : Byte) (g : Flags) : Prop :=
  (∀ k : Nat, k < 8 → y.getLsbD k =
      (if op = .ana then a.getLsbD k && b.getLsbD k
       else if op = .xra then a.getLsbD k != b.getLsbD k
       else a.getLsbD k || b.getLsbD k)) ∧
    ZspOf y g ∧ g.cy = false ∧ g.ac = (if op = .ana then a.getLsbD 3 || b.getLsbD 3 else false)

theorem aluAnd_logicOf (a b : Byte) (f : Flags) : LogicOf .ana a b (aluAnd a b f).1 (aluAnd a b f).2 :=
  ⟨fun _ _ => BitVec.getLsbD_and, zspOf_setZSP .., rfl, rfl⟩

theorem aluXor_logicOf (a b : Byte) (f : Flags) : LogicOf .xra a b (aluXor a b f).1 (aluXor a b f).2 :=
  ⟨fun _ _ => BitVec.getLsbD_xor, zspOf_setZSP .., rfl, rfl⟩

theorem aluOr_logicOf (a b : Byte) (f : Flags) : LogicOf .ora a b (aluOr a b f).1 (aluOr a b f).2 :=
  ⟨fun _ _ => BitVec.getLsbD_or, zspOf_setZSP .., rfl, rfl⟩

theorem aluFunction_logicOf (hop : op = .ana ∨ op = .xra ∨ op = .ora) (a b : Byte) (f : Flags) :
    LogicOf op a b (aluFunction op a b f).1 (aluFunction op a b f).2 := by
  obtain rfl | rfl | rfl := hop
  · exact aluAnd_logicOf a b f
  · exact aluXor_logicOf a b f
  · exact aluOr_logicOf a b f

/-- Settles O37: each operation code names one bitwise function, and everything else is shared by the ALU rows. -/
theorem logicWorksBitByBit : Obligations.LogicWorksBitByBit := by
  refine fun op src s hop => ⟨hasCode_of_encode_eq (encode_alu op src), fun v hv => ?_, alu_outside op⟩
  have hcmp : op ≠ .cmp := by rintro rfl; simp at hop
  obtain ⟨t, ht, ⟨hbits, hzsp, hcy, hac⟩, hkeep⟩ :=
    alu_inside hcmp hv (aluFunction_logicOf hop (s.reg .a) v s.flags)
  exact ⟨t, ht, hbits, hzsp, hcy, hac, hkeep⟩

/-! #### Complement and the carry (R170 to R172) -/

/-- R170 spells the complement as an exclusive or with `FF`. -/
theorem getLsbD_xor_ff (a : Byte) {k : Nat} (hk : k < 8) : (a ^^^ 0xFF).getLsbD k = !a.getLsbD k := by
  rw [show (0xFF : Byte) = BitVec.allOnes 8 from rfl, BitVec.xor_allOnes, BitVec.getLsbD_not]
  simp [hk]

/-- An instruction that writes flags only. -/
theorem setFlags_next {f : Flags} (ho : o = .next ((s.setFlags f).retire len)) :
    ∃ t, o = .next t ∧ t.flags = f ∧ Computes [] [] len s t :=
  ⟨_, ho, rfl, computes_retire rfl (keepsRegsBut_of_regs_eq rfl) (keepsMemBut_of_mem_eq rfl)⟩

/-- Settles O43: `CMA` writes one register as a data transfer does, `CMC` and `STC` write one flag. -/
theorem cmaCmcStcWork : Obligations.CmaCmcStcWork := by
  refine fun s => ⟨hasCode_of_encode_eq rfl, hasCode_of_encode_eq rfl, hasCode_of_encode_eq rfl,
    ⟨_, rfl, fun k hk => ?_, transfers_setReg ..⟩, setFlags_next rfl, setFlags_next rfl⟩
  rw [State.reg_retire, State.reg_setReg_same, getLsbD_xor_ff _ hk]

end Sys2Proof.Machine

/-! ### Rotates (43_rotate.md)

The spec gives the new `A` as a number. It is the old `A` with one bit taken in at the bottom or at the top, which
`BitVec` has as `shiftConcat` and `cons`; what each bit is then follows for both rotates of a direction at once. -/

namespace Sys2Proof.Machine

/-! #### The numbers of R180 to R183 as bits -/

theorem ofNat_double_add_bit (a : Byte) (c : Bool) :
    BitVec.ofNat 8 (a.toNat * 2 % 256 + c.toNat) = a.shiftConcat c := by
  apply BitVec.eq_of_toNat_eq
  simp [BitVec.toNat_shiftConcat, Nat.shiftLeft_eq]

theorem ofNat_half_add_bit (a : Byte) (c : Bool) :
    BitVec.ofNat 8 (a.toNat / 2 + 128 * c.toNat) = BitVec.cons c (a.extractLsb' 1 7) := by
  have hc : c.toNat ≤ 1 := c.toNat_le
  apply BitVec.eq_of_toNat_eq
  rw [BitVec.toNat_cons', BitVec.extractLsb'_toNat, BitVec.toNat_ofNat, Nat.shiftLeft_eq, Nat.shiftRight_eq_div_pow]
  omega

/-- What R180 and R182 say of `a` rotated left with `enter` taken in: the result `y` bit by bit and the flags `g`. -/
def LeftRotationOf (a : Byte) (enter : Bool) (f : Flags) (y : Byte) (g : Flags) : Prop :=
  (∀ k : Nat, k < 7 → y.getLsbD (k + 1) = a.getLsbD k) ∧ y.getLsbD 0 = enter ∧ g = { f with cy := a.getLsbD 7 }

/-- What R181 and R183 say of `a` rotated right with `enter` taken in. -/
def RightRotationOf (a : Byte) (enter : Bool) (f : Flags) (y : Byte) (g : Flags) : Prop :=
  (∀ k : Nat, k < 7 → y.getLsbD k = a.getLsbD (k + 1)) ∧ y.getLsbD 7 = enter ∧ g = { f with cy := a.getLsbD 0 }

theorem double_add_bit_leftRotationOf (a : Byte) (c : Bool) (f : Flags) :
    LeftRotationOf a c f (BitVec.ofNat 8 (a.toNat * 2 % 256 + c.toNat)) { f with cy := a.getLsbD 7 } := by
  rw [ofNat_double_add_bit]
  refine ⟨fun k hk => ?_, ?_, rfl⟩
  · rw [BitVec.getLsbD_shiftConcat]
    simp [show k + 1 < 8 by omega]
  · simp

theorem half_add_bit_rightRotationOf (a : Byte) (c : Bool) (f : Flags) :
    RightRotationOf a c f (BitVec.ofNat 8 (a.toNat / 2 + 128 * c.toNat)) { f with cy := a.getLsbD 0 } := by
  rw [ofNat_half_add_bit]
  refine ⟨fun k hk => ?_, ?_, rfl⟩
  · simp [BitVec.getLsbD_cons, hk, hk.ne, Nat.add_comm]
  · exact (BitVec.getLsbD_cons ..).trans (if_pos rfl)

/-! #### The four instructions -/

/-- `RLC` takes in the bit it shifts out, `RAL` the old `CY`. -/
theorem exec_rotateLeft (s : State) {i : Instr} (hi : i = .rlc ∨ i = .ral) :
    ∃ t, exec i s = .next t ∧
      LeftRotationOf (s.reg .a) (if i = .rlc then (s.reg .a).getLsbD 7 else s.flags.cy) s.flags (t.reg .a) t.flags ∧
      Computes [.a] [] 1 s t := by
  obtain rfl | rfl := hi
  · exact result_next (res := rotLeft (s.reg .a) s.flags) rfl (double_add_bit_leftRotationOf ..)
  · exact result_next (res := rotLeftCarry (s.reg .a) s.flags) rfl (double_add_bit_leftRotationOf ..)

/-- `RRC` takes in the bit it shifts out, `RAR` the old `CY`. -/
theorem exec_rotateRight (s : State) {i : Instr} (hi : i = .rrc ∨ i = .rar) :
    ∃ t, exec i s = .next t ∧
      RightRotationOf (s.reg .a) (if i = .rrc then (s.reg .a).getLsbD 0 else s.flags.cy) s.flags (t.reg .a) t.flags ∧
      Computes [.a] [] 1 s t := by
  obtain rfl | rfl := hi
  · exact result_next (res := rotRight (s.reg .a) s.flags) rfl (half_add_bit_rightRotationOf ..)
  · exact result_next (res := rotRightCarry (s.reg .a) s.flags) rfl (half_add_bit_rightRotationOf ..)

/-- Settles O44: two directions, in each of which only the bit taken in differs. -/
theorem rotatesMoveEveryBitByOne : Obligations.RotatesMoveEveryBitByOne := by
  refine fun s => ⟨hasCode_of_encode_eq rfl, hasCode_of_encode_eq rfl, hasCode_of_encode_eq rfl,
    hasCode_of_encode_eq rfl, fun i hi => ?_, fun i hi => ?_⟩
  · obtain ⟨t, ht, ⟨hbits, henter, hflags⟩, hkeep⟩ := exec_rotateLeft s hi
    exact ⟨t, ht, hbits, henter, hflags, hkeep⟩
  · obtain ⟨t, ht, ⟨hbits, henter, hflags⟩, hkeep⟩ := exec_rotateRight s hi
    exact ⟨t, ht, hbits, henter, hflags, hkeep⟩

end Sys2Proof.Machine

/-! ### Stack and control transfer (44_stack_control.md)

A push and a pop are each settled once, for every instruction that begins with one: what happens where the two bytes are
inside memory (`push_inside`, `pop_inside`) and the fault where they are not. A conditional row is one of two meanings,
chosen by `CondTrue`. -/

namespace Sys2Proof.Machine

variable {s t : State} {i : Instr} {code : Cond} {v w : Word} {o : Out}

/-! #### The bytes of the rows named by their fields (30_encoding.md R80) -/

theorem encode_push (p : RegPair) : encode (Instr.push p) = [BitVec.ofNat 8 (192 + 16 * codeOfStackPair p + 5)] := by
  cases p <;> rfl

theorem encode_pop (p : RegPair) : encode (Instr.pop p) = [BitVec.ofNat 8 (192 + 16 * codeOfStackPair p + 1)] := by
  cases p <;> rfl

theorem encode_jcc (code : Cond) (w : Word) :
    encode (Instr.jcc code w) = [BitVec.ofNat 8 (192 + 8 * codeOfCond code + 2), loByte w, hiByte w] := by
  cases code <;> rfl

theorem encode_ccc (code : Cond) (w : Word) :
    encode (Instr.ccc code w) = [BitVec.ofNat 8 (192 + 8 * codeOfCond code + 4), loByte w, hiByte w] := by
  cases code <;> rfl

theorem encode_rcc (code : Cond) : encode (Instr.rcc code) = [BitVec.ofNat 8 (192 + 8 * codeOfCond code)] := by
  cases code <;> rfl

theorem encode_rst (n : Fin 8) : encode (Instr.rst n) = [BitVec.ofNat 8 (192 + 8 * n.val + 7)] := by
  fin_cases n <;> rfl

/-! #### Pushing (R190, R191, R196) -/

/-- An instruction that pushes `v` and ends. `PC` goes to a target computed from the old `PC`, which a push keeps. -/
theorem push_inside {target : Word → Word} (hi : s.Inv = true)
    (ho : o = andThen (s.push16 v) fun t => .next (t.retireTo (target t.pc))) (h : PushFits s) :
    ∃ t, o = .next t ∧ Pushes v s t ∧ KeepsRegsBut [] s t ∧ KeepsFlags s t ∧ KeepsControl s t ∧ KeepsIo s t ∧
      ExecutedTo (target s.pc) s t := by
  have ⟨htwo, hsize⟩ := h
  rw [s.push16_fits v htwo hsize, andThen_ok] at ho
  exact ⟨_, ho, pushes_of_writes hi h rfl rfl, keepsRegsBut_of_regs_eq rfl, rfl, ⟨rfl, rfl⟩, ⟨rfl, rfl, rfl, rfl⟩,
    rfl, rfl, rfl⟩

theorem push_outside {k : State → Out} (hi : s.Inv = true) (ho : o = andThen (s.push16 v) k) (h : ¬ PushFits s) :
    o = .fault (.outOfBoundsAccess (pushFaultAddr s)) := by
  rw [ho, State.push16_not_fits v hi h, andThen_error]

/-- Settles O45: the push of the pair. -/
theorem pushStoresAPair : Obligations.PushStoresAPair := fun p s hi =>
  ⟨hasCode_of_encode_eq (encode_push p), push_inside (target := (· + 1)) hi (exec_push s p),
    push_outside hi (exec_push s p)⟩

/-- The sum of R23 fits in a byte. -/
theorem flagByte_toNat (f : Flags) : (flagByte f).toNat =
    f.s.toNat * 128 + f.z.toNat * 64 + f.ac.toNat * 16 + f.p.toNat * 4 + 2 + f.cy.toNat := by
  have hs := f.s.toNat_le
  have hz := f.z.toNat_le
  have hac := f.ac.toNat_le
  have hp := f.p.toNat_le
  have hcy := f.cy.toNat_le
  rw [flagByte, BitVec.toNat_ofNat]
  omega

theorem exec_pushPSW (s : State) : exec .pushPSW s =
    andThen (s.push16 (joinBytes (s.reg .a) (flagByte s.flags))) fun t => .next (t.retire 1) := rfl

/-- Settles O46: the push of `A` and the flag byte. -/
theorem pushPswStoresAAndTheFlagByte : Obligations.PushPswStoresAAndTheFlagByte := by
  refine fun s hi => ⟨hasCode_of_encode_eq rfl, fun h => ?_, push_outside hi (exec_pushPSW s)⟩
  obtain ⟨t, ht, hpush, hkeep⟩ := push_inside (target := (· + 1)) hi (exec_pushPSW s) h
  exact ⟨t, flagByte s.flags, ht, hpush, flagByte_toNat s.flags, hkeep⟩

/-! #### Popping (R192, R193, R197) -/

/-- The word a pop reads. -/
def State.stackTop (s : State) : Word := joinBytes (s.mem.read (s.sp.toNat + 1)) (s.mem.read s.sp.toNat)

/-- An instruction that pops goes on as from the state whose `SP` has moved. -/
theorem pop_inside {k : Word × State → Out} (ho : o = andThen s.pop16 k) (h : PopFits s) :
    o = k (s.stackTop, s.setSp (s.sp + 2)) := by
  rw [ho, s.pop16_fits h, andThen_ok, State.stackTop]

theorem pop_outside {k : Word × State → Out} (ho : o = andThen s.pop16 k) (h : ¬ PopFits s) :
    o = .fault (.outOfBoundsAccess (popFaultAddr s)) := by
  rw [ho, State.pop16_not_fits h, andThen_error]

theorem pops_stackTop (hmem : t.mem = s.mem) (hsp : t.sp = s.sp + 2) : Pops s.stackTop s t :=
  ⟨rfl, keepsMemBut_of_mem_eq hmem, hsp⟩

theorem exec_popPSW (s : State) : exec .popPSW s = andThen s.pop16 fun r =>
    .next (((r.2.setReg .a (hiByte r.1)).setFlags (flagsOfByte (loByte r.1))).retire 1) := rfl

/-- Settles O47: the pair reads back the word popped. -/
theorem popLoadsAPair : Obligations.PopLoadsAPair := by
  refine fun p s => ⟨hasCode_of_encode_eq (encode_pop p), fun h => ?_, pop_outside (exec_pop s p)⟩
  obtain ⟨⟨hregs, -, hcontrol, hio⟩, hflags, hpast⟩ := retire_keeps (s := s) (len := 1)
    (u := (s.setSp (s.sp + 2)).setPair p s.stackTop) rfl (keepsRegsBut_setPair s p s.stackTop)
    (keepsMemBut_of_mem_eq rfl)
  refine ⟨_, pop_inside (exec_pop s p) h, ?_, hregs, hflags, hcontrol, hio, hpast⟩
  rw [State.pair_retire, State.pair_setPair]
  exact pops_stackTop rfl rfl

/-- The five bits R193 reads lie in the low byte. -/
theorem getLsbD_loByte (v : Word) {k : Nat} (hk : k < 8) : (loByte v).getLsbD k = v.getLsbD k := by
  have hlow : loByte v = v.setWidth 8 := BitVec.eq_of_toNat_eq (loByte_toNat v)
  rw [hlow, BitVec.getLsbD_setWidth, decide_eq_true hk, Bool.true_and]

/-- Settles O48: the high byte goes to `A`, the low byte through `flagsOfByte`. -/
theorem popPswLoadsAAndTheFlags : Obligations.PopPswLoadsAAndTheFlags := by
  refine fun s => ⟨hasCode_of_encode_eq rfl, fun h => ?_, pop_outside (exec_popPSW s)⟩
  exact ⟨_, s.stackTop, pop_inside (exec_popPSW s) h, pops_stackTop rfl rfl, hiByte_toNat s.stackTop,
    getLsbD_loByte _ (by decide), getLsbD_loByte _ (by decide), getLsbD_loByte _ (by decide),
    getLsbD_loByte _ (by decide), getLsbD_loByte _ (by decide), keepsRegsBut_setReg s .a _, ⟨rfl, rfl⟩,
    ⟨rfl, rfl, rfl, rfl⟩, rfl, rfl, rfl⟩

/-! #### Exchanging the stack top (R194) -/

theorem exec_xthl (s : State) : exec .xthl s = andThen (s.memRead16 s.sp.toNat) fun v =>
    andThen (s.memWrite16 s.sp.toNat s.hl) fun t => .next ((t.setPair .hl v).retire 1) := rfl

/-- The bytes of `XTHL` are those of a pop, so it faults as a pop does. -/
theorem State.memRead16_sp_not_fits (h : ¬ PopFits s) :
    s.memRead16 s.sp.toNat = .error (.outOfBoundsAccess (popFaultAddr s)) := by
  have hpop := State.pop16_not_fits h
  unfold State.pop16 at hpop
  split at hpop
  next hread => cases hpop; exact hread
  next => cases hpop

/-- Both bytes of a 16-bit write read back. -/
theorem read_of_write16 {n : Nat} (hi : s.Inv = true) (hn : n < s.cfg.memSize)
    (hm : t.mem = (s.mem.write n (loByte v)).write (n + 1) (hiByte v)) :
    t.mem.read n = loByte v ∧ t.mem.read (n + 1) = hiByte v := by
  have hwf := State.Inv.mem_wf hi
  rw [hm, Memory.read_write_ne _ _ (by omega), Memory.read_write_same hwf,
    Memory.read_write_same (Memory.write_wf hwf _ hn)]
  exact ⟨rfl, rfl⟩

/-- Settles O49: the word is read before the old `HL` is written, and the write cannot fault where the read did not. -/
theorem xthlSwapsHlWithTheStackTop : Obligations.XthlSwapsHlWithTheStackTop := by
  refine fun s hi => ⟨hasCode_of_encode_eq rfl, fun h => ?_, fun h => ?_⟩
  · have hn : s.sp.toNat < s.cfg.memSize := Nat.lt_of_succ_lt h
    rw [exec_xthl, s.memRead16_nat h, andThen_ok, s.memWrite16_nat _ h, andThen_ok]
    refine ⟨_, rfl, (State.reg_setPair_lo _ .hl _).trans (loByte_joinBytes ..),
      (State.reg_setPair_hi _ .hl _).trans (hiByte_joinBytes ..), ?_, ?_,
      transfers_retire rfl (keepsRegsBut_setPair s .hl _) (keepsMemBut_write_write rfl)⟩
    · exact (read_of_write16 hi hn rfl).1.trans (loByte_joinBytes ..)
    · exact (read_of_write16 hi hn rfl).2.trans (hiByte_joinBytes ..)
  · rw [exec_xthl, State.memRead16_sp_not_fits h, andThen_error]

/-! #### Jumping (R195, R199, R200, R206) -/

/-- An instruction that writes `PC` only. -/
theorem retireTo_keeps (s : State) (w : Word) :
    KeepsAllBut [] [] s (s.retireTo w) ∧ KeepsFlags s (s.retireTo w) ∧ KeepsSp s (s.retireTo w) ∧
      ExecutedTo w s (s.retireTo w) :=
  ⟨⟨keepsRegsBut_of_regs_eq rfl, keepsMemBut_of_mem_eq rfl, ⟨rfl, rfl⟩, rfl, rfl, rfl, rfl⟩, rfl, rfl, rfl, rfl, rfl⟩

/-- Settles O50: no memory access, so no fault. -/
theorem sphlJmpPchlMoveAWord : Obligations.SphlJmpPchlMoveAWord := fun s w =>
  ⟨hasCode_of_encode_eq rfl, hasCode_of_encode_eq rfl, hasCode_of_encode_eq rfl,
    ⟨_, rfl, rfl, retire_keeps (u := s.setSp s.hl) rfl (keepsRegsBut_of_regs_eq rfl) (keepsMemBut_of_mem_eq rfl)⟩,
    ⟨_, rfl, retireTo_keeps s w⟩, ⟨_, rfl, retireTo_keeps s s.hl⟩⟩

/-- A conditional row whose condition holds. -/
theorem ite_condHolds_of_condTrue {yes no : Out} (h : CondTrue code s.flags) :
    (if condHolds code s.flags then yes else no) = yes :=
  if_pos ((condHolds_iff code s.flags).mpr h)

/-- A conditional row whose condition does not hold. -/
theorem ite_condHolds_of_not_condTrue {yes no : Out} (h : ¬ CondTrue code s.flags) :
    (if condHolds code s.flags then yes else no) = no :=
  if_neg (mt (condHolds_iff code s.flags).mp h)

/-- A conditional row that is not taken only advances. -/
theorem not_taken {len : Nat} {yes : Out} (h : ¬ CondTrue code s.flags)
    (ho : o = if condHolds code s.flags then yes else .next (s.retire len)) :
    ∃ t, o = .next t ∧ Transfers [] [] len s t :=
  ⟨_, ho.trans (ite_condHolds_of_not_condTrue h), retireTo_keeps s _⟩

/-- Settles O51: both paths write `PC` only. -/
theorem conditionalJumpTakesOneOfTwoPaths : Obligations.ConditionalJumpTakesOneOfTwoPaths := by
  refine fun code w s => ⟨hasCode_of_encode_eq (encode_jcc code w), ?_⟩
  by_cases h : CondTrue code s.flags
  · obtain ⟨hall, hflags, hsp, hto⟩ := retireTo_keeps s w
    exact ⟨_, (exec_jcc s code w).trans (ite_condHolds_of_condTrue h), hall, hflags, hsp, fun _ => hto,
      fun hnot => absurd h hnot⟩
  · obtain ⟨t, ht, hall, hflags, hsp, hpast⟩ := not_taken h (exec_jcc s code w)
    exact ⟨t, ht, hall, hflags, hsp, fun htrue => absurd htrue h, fun _ => hpast⟩

/-! #### Calling (R201, R202, R205) -/

theorem exec_taken_call (h : i = .call w ∨ (i = Instr.ccc code w ∧ CondTrue code s.flags)) :
    exec i s = s.callTo 3 w := by
  obtain rfl | ⟨rfl, htrue⟩ := h
  · rfl
  · exact (exec_ccc s code w).trans (ite_condHolds_of_condTrue htrue)

/-- Settles O52: `CALL` and a taken `Ccc` are one push, whose target does not depend on `PC`. -/
theorem callPushesTheReturnAddress : Obligations.CallPushesTheReturnAddress := fun code w s hi =>
  ⟨hasCode_of_encode_eq rfl, hasCode_of_encode_eq (encode_ccc code w),
    fun _ h => ⟨push_inside (target := fun _ => w) hi (exec_taken_call h), push_outside hi (exec_taken_call h)⟩,
    fun h => not_taken h (exec_ccc s code w)⟩

/-- Settles O54: the call of a restart, whose target is a constant of the row. -/
theorem restartPushesAndJumpsToEightN : Obligations.RestartPushesAndJumpsToEightN := by
  refine fun n s hi => ⟨hasCode_of_encode_eq (encode_rst n), fun h => ?_, push_outside hi (exec_rst s n)⟩
  obtain ⟨t, ht, hpush, hregs, hflags, hcontrol, hio, hpc, hicount, hresult⟩ :=
    push_inside (target := fun _ => vectorAddr n) hi (exec_rst s n) h
  exact ⟨t, ht, hpush, by rw [hpc, vectorAddr_toNat n.isLt], hregs, hflags, hcontrol, hio, hicount, hresult⟩

/-! #### Returning (R203, R204) -/

theorem exec_taken_return (h : i = .ret ∨ (i = Instr.rcc code ∧ CondTrue code s.flags)) :
    exec i s = s.returnFrom := by
  obtain rfl | ⟨rfl, htrue⟩ := h
  · rfl
  · exact (exec_rcc s code).trans (ite_condHolds_of_condTrue htrue)

/-- Settles O53: `RET` and a taken `Rcc` are one pop, of which `PC` is the word popped. -/
theorem returnPopsTheProgramCounter : Obligations.ReturnPopsTheProgramCounter := by
  refine fun code s => ⟨hasCode_of_encode_eq rfl, hasCode_of_encode_eq (encode_rcc code),
    fun i h => ⟨fun hfits => ?_, pop_outside (exec_taken_return h)⟩, fun h => not_taken h (exec_rcc s code)⟩
  exact ⟨_, pop_inside (exec_taken_return h) hfits, pops_stackTop rfl rfl, keepsRegsBut_of_regs_eq rfl, rfl,
    ⟨rfl, rfl⟩, ⟨rfl, rfl, rfl, rfl⟩, rfl, rfl⟩

end Sys2Proof.Machine

/-! ### Input and output (45_io.md)

`IN` is the load of one register with `IoRead`, and its claims about the value are the two equations of `State.ioRead`.
`OUT` writes no register and no byte; its frame is that of any such instruction but for the event. -/

namespace Sys2Proof.Machine

/-- An input instruction ends as any load of `A` does, with its free value used up (20_memory.md R50; log entry 4). -/
theorem exec_inPort (s : State) (port : Byte) :
    exec (.inPort port) s = .next { (s.setReg .a (s.ioRead port)).retire 2 with inCount := s.inCount + 1 } := rfl

theorem exec_outPort (s : State) (port : Byte) :
    exec (.outPort port) s = .next ((s.ioWrite port (s.reg .a)).retire 2) := rfl

/-- Once the host has set the port, its value is known (20_memory.md R50). -/
@[simp] theorem State.ioRead_setInput_same (s : State) (port v : Byte) : (s.setInput port v).ioRead port = v :=
  State.ioRead_known (PortTable.lookup_set_same s.inPorts port.toNat v)

/-- `IN` as a load: the frame of a register load, except for the count of free values used. -/
theorem inPort_loads (s : State) (port : Byte) :
    ∃ t, exec (.inPort port) s = .next t ∧ t.reg .a = s.ioRead port ∧
      KeepsRegsBut [.a] s t ∧ KeepsFlags s t ∧ KeepsSp s t ∧ KeepsMemBut [] s t ∧ KeepsControl s t ∧
      t.inPorts = s.inPorts ∧ t.outputs = s.outputs ∧ t.cfg = s.cfg ∧ ExecutedPast 2 s t := by
  obtain ⟨⟨hregs, hmem, hcontrol, houtputs, hports, -, hcfg⟩, hflags, hsp, hpast⟩ :=
    transfers_setReg (s := s) (len := 2) .a (s.ioRead port)
  exact ⟨_, exec_inPort s port, s.reg_setReg_same .a (s.ioRead port), hregs, hflags, hsp, hmem, hcontrol, hports,
    houtputs, hcfg, hpast⟩

/-- Settles O57: `A` is `IoRead` of the port, which is the known value or the free one. -/
theorem inLoadsAFromThePort : Obligations.InLoadsAFromThePort := by
  refine fun s port => ⟨hasCode_of_encode_eq rfl, ?_, fun v => ?_⟩
  · obtain ⟨t, ht, ha, hkeep⟩ := inPort_loads s port
    exact ⟨t, ht, fun v hv => ha.trans (State.ioRead_known hv), fun hnone => ha.trans (State.ioRead_free hnone), hkeep⟩
  · obtain ⟨t, ht, ha, -⟩ := inPort_loads (s.setInput port v) port
    exact ⟨t, ht, ha.trans (s.ioRead_setInput_same port v)⟩

/-- Settles O58: recording the event and ending the instruction write neither a register nor memory. -/
theorem outEmitsOneEvent : Obligations.OutEmitsOneEvent := fun s port =>
  ⟨hasCode_of_encode_eq rfl, _, exec_outPort s port, s.ioWrite_outputs port (s.reg .a), keepsRegsBut_of_regs_eq rfl,
    rfl, rfl, keepsMemBut_of_mem_eq rfl, ⟨rfl, rfl⟩, rfl, rfl, rfl, ⟨rfl, rfl, rfl⟩⟩

end Sys2Proof.Machine

/-! ### Interrupt control, halt and no-operation (46_interrupt_machine_control.md R234 to R237)

Each of the four instructions is one field update and the end of the instruction, so its next state holds by evaluation.
What comes right after is a fact about requests and about steps of a halted core, stated for every state. -/

namespace Sys2Proof.Machine

variable {s : State}

/-! #### A request with a valid vector (60_exceptions.md R250, R251) -/

theorem requestInterrupt_inte {vector : Int} (h0 : 0 ≤ vector) (h7 : vector ≤ 7) (hinte : s.inte = true) :
    requestInterrupt vector s = andThen (s.takeInterrupt vector.toNat) fun t => .next t := by
  rw [requestInterrupt, if_neg (by omega), if_pos hinte]

theorem requestInterrupt_dropped {vector : Int} (h0 : 0 ≤ vector) (h7 : vector ≤ 7) (hinte : s.inte = false) :
    requestInterrupt vector s = .next { s with result := .dropped } := by
  rw [requestInterrupt, if_neg (by omega), if_neg (by simp [hinte])]

theorem requestInterrupt_taken {vector : Int} (h0 : 0 ≤ vector) (h7 : vector ≤ 7) (hinte : s.inte = true)
    (hfits : PushFits s) : ∃ t, requestInterrupt vector s = .next t ∧ t.result = .taken := by
  obtain ⟨h2, hsize⟩ := hfits
  rw [requestInterrupt_inte h0 h7 hinte, s.takeInterrupt_fits _ h2 hsize, andThen_ok]
  exact ⟨_, rfl, rfl⟩

/-! #### Steps of a halted core (60_exceptions.md R240 step 1) -/

theorem State.after_step_of_halted (h : s.halted = true) : s.after .step = { s with result := .halted } := by
  simp only [State.after, move, step_halted s h]

theorem State.afterAll_steps_of_halted (h : s.halted = true) (n : Nat) :
    s.afterAll (List.replicate (n + 1) .step) = { s with result := .halted } := by
  induction n generalizing s with
  | zero => exact State.after_step_of_halted h
  | succ n ih =>
    rw [List.replicate_succ, State.afterAll, State.after_step_of_halted h]
    exact ih h

/-- Settles O59: the four next states by evaluation; `INTE` decides the request that follows, `HALTED` the steps. -/
theorem eiDiHltNopWriteOnlyTheirBit : Obligations.EiDiHltNopWriteOnlyTheirBit := by
  refine fun s => ⟨hasCode_of_encode_eq rfl, hasCode_of_encode_eq rfl, hasCode_of_encode_eq rfl,
    hasCode_of_encode_eq rfl, ?ei, ?di, ?hlt, rfl⟩
  case ei => exact ⟨_, rfl, rfl, fun _ h0 h7 hfits => requestInterrupt_taken h0 h7 rfl hfits⟩
  case di => exact ⟨_, rfl, rfl, fun _ h0 h7 => requestInterrupt_dropped h0 h7 rfl⟩
  case hlt => exact ⟨_, rfl, rfl, State.afterAll_steps_of_halted rfl⟩

end Sys2Proof.Machine

/-! ### The 12 undocumented bytes (46_interrupt_machine_control.md R238)

Every undocumented row is `undocumented` of its byte and of what it aliases, so the policy splits once for all twelve.
Four of the aliases read `imm16` from memory first, and where that read fails the row fails with it. -/

namespace Sys2Proof.Machine

variable {s : State} {op : Byte} {asAlias : State → Out} {i : Instr}

theorem undocumented_of_fault (h : s.cfg.undocPolicy = .fault) :
    undocumented op asAlias s = .next (s.raiseUnimplemented op) := by
  rw [undocumented, h]

theorem undocumented_of_aliased (h : s.cfg.undocPolicy = .aliased) : undocumented op asAlias s = asAlias s := by
  rw [undocumented, h]

theorem undocumentedRow_meaning {row : Instr × Byte} (hrow : row ∈ undocumentedRows) :
    encode row.1 = [row.2] ∧ ∃ asAlias, exec row.1 = undocumented row.2 asAlias := by
  simp only [undocumentedRows, List.mem_cons, List.not_mem_nil, or_false] at hrow
  rcases hrow with rfl | rfl | rfl | rfl | rfl | rfl | rfl | rfl | rfl | rfl | rfl | rfl
  all_goals exact ⟨rfl, _, rfl⟩

/-! #### Reading `imm16` after the opcode byte (30_encoding.md R77) -/

theorem State.imm16AfterPc_inside (h : s.pc.toNat + 2 < s.cfg.memSize) :
    s.imm16AfterPc = .ok (joinBytes (s.mem.read (s.pc.toNat + 2)) (s.mem.read (s.pc.toNat + 1))) :=
  s.memRead16_nat h

theorem State.imm16AfterPc_low_outside (h : s.cfg.memSize ≤ s.pc.toNat + 1) :
    s.imm16AfterPc = .error (.outOfBoundsAccess ((s.pc.toNat : Int) + 1)) :=
  s.memRead16_low_outside h

theorem State.imm16AfterPc_high_outside (h : s.pc.toNat + 2 = s.cfg.memSize) :
    s.imm16AfterPc = .error (.outOfBoundsAccess ((s.pc.toNat : Int) + 2)) := by
  rw [State.imm16AfterPc]
  exact s.memRead16_high_outside h

/-! #### Under the policy `aliased` -/

theorem exec_noOperationAlias (hpolicy : s.cfg.undocPolicy = .aliased)
    (hi : i ∈ [Instr.undoc08, .undoc10, .undoc18, .undoc20, .undoc28, .undoc30, .undoc38]) :
    exec i s = exec .nop s := by
  simp only [List.mem_cons, List.not_mem_nil, or_false] at hi
  rcases hi with rfl | rfl | rfl | rfl | rfl | rfl | rfl
  all_goals exact undocumented_of_aliased hpolicy

theorem exec_undocD9_aliased (hpolicy : s.cfg.undocPolicy = .aliased) : exec .undocD9 s = exec .ret s :=
  undocumented_of_aliased hpolicy

theorem exec_undocCB_aliased (hpolicy : s.cfg.undocPolicy = .aliased) :
    exec .undocCB s = andThen s.imm16AfterPc fun w => exec (.jmp w) s :=
  undocumented_of_aliased hpolicy

theorem exec_callAlias (hpolicy : s.cfg.undocPolicy = .aliased) (hi : i ∈ [Instr.undocDD, .undocED, .undocFD]) :
    exec i s = andThen s.imm16AfterPc fun w => exec (.call w) s := by
  simp only [List.mem_cons, List.not_mem_nil, or_false] at hi
  rcases hi with rfl | rfl | rfl
  all_goals exact undocumented_of_aliased hpolicy

/-- The aliases with an immediate go on with it, as a jump or as a call. -/
theorem exec_immediateAlias (hpolicy : s.cfg.undocPolicy = .aliased)
    (hi : i ∈ [Instr.undocCB, .undocDD, .undocED, .undocFD]) : ∃ k, exec i s = andThen s.imm16AfterPc k := by
  obtain rfl | hcall := List.mem_cons.1 hi
  · exact ⟨_, exec_undocCB_aliased hpolicy⟩
  · exact ⟨_, exec_callAlias hpolicy hcall⟩

/-- Settles O60: `undocumentedRow_meaning` under `fault`; under `aliased` one equation per aliased instruction, and the
read of `imm16` inside memory and at its end. -/
theorem undocumentedBytesFollowThePolicy : Obligations.UndocumentedBytesFollowThePolicy := by
  refine fun s => ⟨fun row hrow => ?fault, fun hpolicy =>
    ⟨fun _ => exec_noOperationAlias hpolicy, exec_undocD9_aliased hpolicy, fun w hfits hw => ⟨?jump, fun i hi => ?call⟩,
      fun i hi => ?outside⟩⟩
  case fault =>
    obtain ⟨hencode, asAlias, hmeaning⟩ := undocumentedRow_meaning hrow
    refine ⟨hasCode_of_encode_eq hencode, fun hpolicy => ?_⟩
    rw [hmeaning, undocumented_of_fault hpolicy, State.raiseUnimplemented]
  case jump => rw [exec_undocCB_aliased hpolicy, State.imm16AfterPc_inside hfits, andThen_ok, hw]
  case call => rw [exec_callAlias hpolicy hi, State.imm16AfterPc_inside hfits, andThen_ok, hw]
  case outside =>
    obtain ⟨k, hk⟩ := exec_immediateAlias hpolicy hi
    refine ⟨fun hlow => ?_, fun hhigh => ?_⟩
    · rw [hk, State.imm16AfterPc_low_outside hlow, andThen_error]
    · rw [hk, State.imm16AfterPc_high_outside hhigh, andThen_error]

end Sys2Proof.Machine

/-! ### A halted core (60_exceptions.md R240, R252; 70_reset_and_hazards.md R290 d)

A property that every allowed move keeps holds after any sequence of them; that induction over the moves is done once. -/

namespace Sys2Proof.Machine

variable {s t u : State}

/-- A move leads to its next state, or leaves the state as it was (60_exceptions.md R242). -/
theorem State.after_cases (s : State) (m : Move) : (∃ t, move m s = .next t ∧ s.after m = t) ∨ s.after m = s := by
  unfold State.after
  split
  next t h => exact .inl ⟨t, h, rfl⟩
  next => exact .inr rfl
  next => exact .inr rfl

/-- What every allowed move with a next state keeps, a sequence of allowed moves keeps. -/
theorem State.afterAll_induction {P : State → Prop} {Allowed : Move → Prop}
    (hmove : ∀ {m : Move} {t u : State}, Allowed m → P t → move m t = .next u → P u) (moves : List Move) (hs : P s)
    (hall : ∀ m ∈ moves, Allowed m) : P (s.afterAll moves) := by
  induction moves generalizing s with
  | nil => exact hs
  | cons m rest ih =>
    refine ih ?_ fun m' hm' => hall m' (List.mem_cons_of_mem m hm')
    obtain ⟨t, ht, hafter⟩ | hafter := s.after_cases m
    · rw [hafter]; exact hmove (hall m List.mem_cons_self) hs ht
    · rw [hafter]; exact hs

/-- What only an executed instruction or a reset can change. -/
structure ExecutesNothing (s t : State) : Prop where
  halted : t.halted = s.halted
  regs : t.regs = s.regs
  flags : t.flags = s.flags
  icount : t.icount = s.icount

theorem ExecutesNothing.refl (s : State) : ExecutesNothing s s := ⟨rfl, rfl, rfl, rfl⟩

theorem ExecutesNothing.trans (h : ExecutesNothing s t) (h' : ExecutesNothing t u) : ExecutesNothing s u :=
  ⟨h'.halted.trans h.halted, h'.regs.trans h.regs, h'.flags.trans h.flags, h'.icount.trans h.icount⟩

/-- A request executes nothing, whether the core is halted or not. -/
theorem requestInterrupt_executesNothing {vector : Int} (h : requestInterrupt vector s = .next t) :
    ExecutesNothing s t := by
  obtain ⟨-, -, ⟨-, htake⟩ | ⟨-, rfl⟩⟩ := requestInterrupt_eq_next h
  · obtain ⟨-, -, rfl⟩ := State.takeInterrupt_ok htake
    exact ⟨rfl, rfl, rfl, rfl⟩
  · exact ⟨rfl, rfl, rfl, rfl⟩

theorem move_executesNothing {m : Move} (hhalted : s.halted = true) (hreset : ∀ p q, m ≠ .reset p q)
    (h : move m s = .next t) : ExecutesNothing s t := by
  cases m with
  | step =>
    cases (step_halted s hhalted).symm.trans h
    exact ⟨rfl, rfl, rfl, rfl⟩
  | request vector => exact requestInterrupt_executesNothing h
  | reset p q => exact absurd rfl (hreset p q)
  | setInput port v => cases h; exact ⟨rfl, rfl, rfl, rfl⟩

/-- Settles O16: no move but a reset executes anything on a halted core, and it stays halted for the next move. -/
theorem haltedLastsUntilReset : Obligations.HaltedLastsUntilReset := by
  intro s moves hhalted hreset
  have hkeep : ExecutesNothing s (s.afterAll moves) :=
    State.afterAll_induction
      (fun hm hst htu => hst.trans (move_executesNothing (hst.halted.trans hhalted) hm htu)) moves (.refl s) hreset
  exact ⟨hkeep.halted.trans hhalted, keepsRegsBut_of_regs_eq hkeep.regs, hkeep.flags, hkeep.icount⟩

/-- Settles O8: the first test of a step. -/
theorem haltedStepDoesNothing : Obligations.HaltedStepDoesNothing := step_halted

/-- Settles O13: every field of the new state is one of the laws of `State.hostReset`. -/
theorem resetTransitionMakesTheStateAnew : Obligations.ResetTransitionMakesTheStateAnew := fun s entryPc entrySp =>
  ⟨s.hostReset entryPc entrySp, rfl, State.reset_reg, rfl, rfl, rfl, rfl, rfl, rfl,
    keepsMemBut_of_mem_eq (s.hostReset_mem ..), s.hostReset_outputs .., s.hostReset_inPorts .., s.hostReset_inCount ..,
    s.hostReset_cfg ..⟩

end Sys2Proof.Machine

/-! ### The fetch of a step (60_exceptions.md R240, R242)

A fetch finds all bytes of the instruction inside memory, or its opcode byte outside, or the end of memory among its
immediate bytes. -/

namespace Sys2Proof.Machine

variable {s : State}

/-- Settles O6: the fetch finds the bytes that decode. -/
theorem stepRunsTheDecodedInstruction : Obligations.StepRunsTheDecodedInstruction := by
  intro s i n hrun hfits hdecode
  have hfetch : fetchInstr s = .ok i :=
    fetchInstr_of_decode hdecode
      (fun k hk => by rw [List.getD_eq_getElem _ _ hk, List.getElem_map, List.getElem_range]) (by simpa using hfits)
  rw [step_running s hrun, hfetch, andThen_ok]

/-- Settles O7: the two ways in which a fetch fails. -/
theorem fetchOutsideMemoryFaults : Obligations.FetchOutsideMemoryFaults := by
  refine fun s hrun => ⟨fun hout => ?_, fun k hk hlen hout => ?_⟩
  · rw [step_running s hrun, fetchInstr_opcode_outside hout, andThen_error]
  · rw [step_running s hrun, fetchInstr_immediate_outside hk hlen hout, andThen_error]

theorem fetchInstr_error {f : Fault} (h : fetchInstr s = .error f) : NamesMissingByte s.cfg.memSize f := by
  by_cases hall : s.pc.toNat + opcodeLength (s.mem.read s.pc.toNat) ≤ s.cfg.memSize
  · cases (fetchInstr_inside s hall).symm.trans h
  · by_cases hop : s.cfg.memSize ≤ s.pc.toNat
    · cases (fetchInstr_opcode_outside hop).symm.trans h
      exact ⟨_, rfl, .inr (by omega)⟩
    · have hend := fetchInstr_immediate_outside (s := s) (k := s.cfg.memSize - s.pc.toNat) (by omega) (by omega)
        (by omega)
      cases hend.symm.trans h
      exact ⟨_, rfl, .inr (by omega)⟩

end Sys2Proof.Machine

/-! ### What a step can fault with (60_exceptions.md R241, R242, R244)

An instruction faults only where one of its checked accesses does, and each of those names a missing byte
(`NamesMissingByte`, Laws/Ops.lean). -/

namespace Sys2Proof.Machine

variable {s : State} {o : Out} {size : Nat}

/-- A next state, or a fault that names an address outside a memory of `size` bytes. -/
def FaultsOnlyOutside (size : Nat) (o : Out) : Prop :=
  (∃ t, o = .next t) ∨ ∃ a : Int, o = .fault (.outOfBoundsAccess a) ∧ (a < 0 ∨ (size : Int) ≤ a)

theorem FaultsOnlyOutside.of_next (t : State) : FaultsOnlyOutside size (.next t) := .inl ⟨t, rfl⟩

/-- A checked access and what goes on with its value. -/
theorem FaultsOnlyOutside.of_andThen {α : Type} {r : Except Fault α} {k : α → Out}
    (hr : ∀ {f}, r = .error f → NamesMissingByte size f) (hk : ∀ v, FaultsOnlyOutside size (k v)) :
    FaultsOnlyOutside size (andThen r k) := by
  cases r with
  | ok v => exact hk v
  | error f =>
    obtain ⟨a, rfl, ha⟩ := hr rfl
    exact .inr ⟨a, rfl, ha⟩

/-- A checked access that ends the instruction. -/
theorem FaultsOnlyOutside.of_access {α : Type} {r : Except Fault α} {k : α → State}
    (hr : ∀ {f}, r = .error f → NamesMissingByte size f) :
    FaultsOnlyOutside size (andThen r fun v => .next (k v)) := .of_andThen hr fun _ => .of_next _

theorem FaultsOnlyOutside.of_ite {c : Prop} [Decidable c] {yes no : Out} (hyes : FaultsOnlyOutside size yes)
    (hno : FaultsOnlyOutside size no) : FaultsOnlyOutside size (if c then yes else no) := by
  split
  · exact hyes
  · exact hno

theorem callTo_faultsOnlyOutside (s : State) (len : Nat) (w : Word) :
    FaultsOnlyOutside s.cfg.memSize (s.callTo len w) := .of_access State.push16_error

theorem returnFrom_faultsOnlyOutside (s : State) : FaultsOnlyOutside s.cfg.memSize s.returnFrom :=
  .of_access State.pop16_error

theorem jumpAlias_faultsOnlyOutside (s : State) : FaultsOnlyOutside s.cfg.memSize (jumpAlias s) :=
  .of_access State.memRead16_error

theorem callAlias_faultsOnlyOutside (s : State) : FaultsOnlyOutside s.cfg.memSize (callAlias s) :=
  .of_andThen State.memRead16_error fun w => callTo_faultsOnlyOutside s 3 w

theorem undocumented_faultsOnlyOutside {op : Byte} {asAlias : State → Out}
    (halias : FaultsOnlyOutside s.cfg.memSize (asAlias s)) :
    FaultsOnlyOutside s.cfg.memSize (undocumented op asAlias s) := by
  cases hpolicy : s.cfg.undocPolicy with
  | fault => rw [undocumented_of_fault hpolicy]; exact .of_next _
  | aliased => rw [undocumented_of_aliased hpolicy]; exact halias

theorem exec_faultsOnlyOutside (i : Instr) (s : State) : FaultsOnlyOutside s.cfg.memSize (exec i s) := by
  induction i using Instr.byFamily with
  | mov => rw [exec_mov]; exact .of_next _
  | mvi => rw [exec_mvi]; exact .of_next _
  | inr => rw [exec_inr]; exact .of_next _
  | dcr => rw [exec_dcr]; exact .of_next _
  | lxi => rw [exec_lxi]; exact .of_next _
  | inx => rw [exec_inx]; exact .of_next _
  | dcx => rw [exec_dcx]; exact .of_next _
  | dad => rw [exec_dad]; exact .of_next _
  | nop | rlc | rrc | ral | rar | daa | cma | stc | cmc | hlt | jmp | pchl | xchg | sphl | ei | di | inPort | outPort =>
    exact .of_next _
  | movFromM => rw [exec_movFromM]; exact .of_access State.memRead_error
  | ldax => rw [exec_ldax]; exact .of_access State.memRead_error
  | lda => exact .of_access State.memRead_error
  | lhld => exact .of_access State.memRead16_error
  | alu op src =>
    by_cases hop : op = .cmp
    · subst hop; rw [exec_alu]; exact .of_access State.src8_error
    · rw [exec_alu_into s src hop]; exact .of_access State.src8_error
  | movToM => rw [exec_movToM]; exact .of_access State.memWrite_error
  | stax => rw [exec_stax]; exact .of_access State.memWrite_error
  | sta | mviM => exact .of_access State.memWrite_error
  | shld => exact .of_access State.memWrite16_error
  | inrM | dcrM => exact .of_andThen State.memRead_error fun _ => .of_access State.memWrite_error
  | xthl => exact .of_andThen State.memRead16_error fun _ => .of_access State.memWrite16_error
  | push => rw [exec_push]; exact .of_access State.push16_error
  | pushPSW => exact .of_access State.push16_error
  | pop => rw [exec_pop]; exact .of_access State.pop16_error
  | popPSW => exact .of_access State.pop16_error
  | jcc => rw [exec_jcc]; exact .of_ite (.of_next _) (.of_next _)
  | ccc => rw [exec_ccc]; exact .of_ite (callTo_faultsOnlyOutside ..) (.of_next _)
  | rcc => rw [exec_rcc]; exact .of_ite (returnFrom_faultsOnlyOutside s) (.of_next _)
  | call => exact callTo_faultsOnlyOutside ..
  | rst => rw [exec_rst]; exact callTo_faultsOnlyOutside ..
  | ret => exact returnFrom_faultsOnlyOutside s
  | undoc08 | undoc10 | undoc18 | undoc20 | undoc28 | undoc30 | undoc38 =>
    exact undocumented_faultsOnlyOutside (.of_next _)
  | undocCB => exact undocumented_faultsOnlyOutside (jumpAlias_faultsOnlyOutside s)
  | undocD9 => exact undocumented_faultsOnlyOutside (returnFrom_faultsOnlyOutside s)
  | undocDD | undocED | undocFD => exact undocumented_faultsOnlyOutside (callAlias_faultsOnlyOutside s)

/-- Settles O19: a halted core has a next state; a running one fetches and executes, and both fault in this way only. -/
theorem stepFaultsOnlyOutsideMemory : Obligations.StepFaultsOnlyOutsideMemory := by
  intro s
  cases hhalted : s.halted with
  | true => exact .inl ⟨_, step_halted s hhalted⟩
  | false =>
    rw [step_running s hhalted]
    exact FaultsOnlyOutside.of_andThen fetchInstr_error fun i => exec_faultsOnlyOutside i s

end Sys2Proof.Machine

/-! ### The bytes an instruction stores to (70_reset_and_hazards.md R290 g, 20_memory.md R42)

`StoresAt` (Laws/Stores.lean) holds of the three writing operations and survives what ends an instruction; so each family
of rows stores at the addresses `storeAddrs` gives it. -/

namespace Sys2Proof.Machine

variable {s t : State} {i : Instr} {addrs : List Nat}

theorem StoresAt.of_next {u : State} (h : (.next u : Out) = .next t) (hmem : u.mem = s.mem) : StoresAt [] s t :=
  .none (Host.Outcome.next.inj h ▸ hmem)

/-- An instruction that reads and ends. -/
theorem StoresAt.of_read {α : Type} {r : Except Fault α} {k : α → State}
    (h : (andThen r fun v => .next (k v)) = .next t) (hmem : ∀ v, r = .ok v → (k v).mem = s.mem) : StoresAt [] s t := by
  obtain ⟨v, hr, hv⟩ := andThen_eq_next h
  exact .of_next hv (hmem v hr)

/-- An instruction that stores and ends. -/
theorem StoresAt.of_store {r : Except Fault State} {k : State → State}
    (h : (andThen r fun u => .next (k u)) = .next t) (hstore : ∀ {u}, r = .ok u → StoresAt addrs s u)
    (hmem : ∀ u, (k u).mem = u.mem) : StoresAt addrs s t := by
  obtain ⟨u, hr, hu⟩ := andThen_eq_next h
  cases hu
  exact (hstore hr).andKeep (hmem u)

theorem State.pop16_mem {r : Word × State} (h : s.pop16 = .ok r) : r.2.mem = s.mem := by
  obtain ⟨-, rfl⟩ := State.pop16_ok h
  rfl

theorem callTo_storesAt {len : Nat} {w : Word} (h : s.callTo len w = .next t) : StoresAt s.pushAddrs s t :=
  .of_store h State.push16_storesAt fun _ => rfl

theorem callIf_storesAt {code : Cond} {w : Word} (h : callIf code w s = .next t) :
    StoresAt (s.callAddrsIf code) s t := by
  unfold callIf at h
  unfold State.callAddrsIf
  split at h
  next htaken => rw [if_pos htaken]; exact callTo_storesAt h
  next hnot => rw [if_neg hnot]; exact .of_next h rfl

theorem returnFrom_storesNothing (h : s.returnFrom = .next t) : StoresAt [] s t := .of_read h fun _ => State.pop16_mem

theorem stepMem_storesAt {f : Byte → Flags → Byte × Flags} (h : stepMem f s = .next t) :
    StoresAt [s.hl.toNat] s t := by
  obtain ⟨v, -, hwrite⟩ := andThen_eq_next h
  exact .of_store hwrite State.memWrite_storesAt fun _ => rfl

theorem xthl_storesAt (h : execXthl s = .next t) : StoresAt [s.sp.toNat, s.sp.toNat + 1] s t := by
  obtain ⟨v, -, hwrite⟩ := andThen_eq_next h
  exact .of_store hwrite State.memWrite16_storesAt fun _ => rfl

theorem noOperation_storesNothing (h : noOperation s = .next t) : StoresAt [] s t := .of_next h rfl

theorem jumpAlias_storesNothing (h : jumpAlias s = .next t) : StoresAt [] s t := .of_read h fun _ _ => rfl

theorem callAlias_storesAt (h : callAlias s = .next t) : StoresAt s.pushAddrs s t := by
  obtain ⟨w, -, hcall⟩ := andThen_eq_next h
  exact callTo_storesAt hcall

/-- An undocumented byte stores nothing under either policy if what it aliases does not. -/
theorem undocumented_storesNothing {op : Byte} {asAlias : State → Out} (halias : asAlias s = .next t → StoresAt [] s t)
    (h : undocumented op asAlias s = .next t) : StoresAt [] s t := by
  cases hpolicy : s.cfg.undocPolicy with
  | fault => rw [undocumented_of_fault hpolicy] at h; exact .of_next h rfl
  | aliased => rw [undocumented_of_aliased hpolicy] at h; exact halias h

theorem undocumented_callAlias_storesAt {op : Byte} (h : undocumented op callAlias s = .next t) :
    StoresAt s.callAliasAddrs s t := by
  cases hpolicy : s.cfg.undocPolicy with
  | fault =>
    rw [undocumented_of_fault hpolicy] at h
    rw [State.callAliasAddrs, hpolicy]
    exact .of_next h rfl
  | aliased =>
    rw [undocumented_of_aliased hpolicy] at h
    rw [State.callAliasAddrs, hpolicy]
    exact callAlias_storesAt h

theorem exec_storesAt (h : exec i s = .next t) : StoresAt (storeAddrs i s) s t := by
  induction i using Instr.byFamily with
  | mov => rw [exec_mov] at h; rw [storeAddrs_mov]; exact .of_next h rfl
  | mvi => rw [exec_mvi] at h; rw [storeAddrs_mvi]; exact .of_next h rfl
  | inr => rw [exec_inr] at h; rw [storeAddrs_inr]; exact .of_next h rfl
  | dcr => rw [exec_dcr] at h; rw [storeAddrs_dcr]; exact .of_next h rfl
  | lxi => rw [exec_lxi] at h; rw [storeAddrs_lxi]; exact .of_next h (by simp)
  | inx => rw [exec_inx] at h; rw [storeAddrs_inx]; exact .of_next h (by simp)
  | dcx => rw [exec_dcx] at h; rw [storeAddrs_dcx]; exact .of_next h (by simp)
  | dad => rw [exec_dad] at h; rw [storeAddrs_dad]; exact .of_next h rfl
  | nop | rlc | rrc | ral | rar | daa | cma | stc | cmc | hlt | jmp | pchl | xchg | sphl | ei | di | inPort | outPort =>
    exact .of_next h rfl
  | movFromM => rw [exec_movFromM] at h; rw [storeAddrs_movFromM]; exact .of_read h fun _ _ => rfl
  | ldax => rw [exec_ldax] at h; rw [storeAddrs_ldax]; exact .of_read h fun _ _ => rfl
  | lda | lhld => exact .of_read h fun _ _ => rfl
  | alu op src =>
    rw [storeAddrs_alu]
    by_cases hop : op = .cmp
    · subst hop; rw [exec_alu] at h; exact .of_read h fun _ _ => rfl
    · rw [exec_alu_into s src hop] at h; exact .of_read h fun _ _ => rfl
  | movToM =>
    rw [exec_movToM] at h; rw [storeAddrs_movToM]; exact .of_store h State.memWrite_storesAt fun _ => rfl
  | stax => rw [exec_stax] at h; rw [storeAddrs_stax]; exact .of_store h State.memWrite_storesAt fun _ => rfl
  | sta | mviM => exact .of_store h State.memWrite_storesAt fun _ => rfl
  | shld => exact .of_store h State.memWrite16_storesAt fun _ => rfl
  | inrM | dcrM => exact stepMem_storesAt h
  | xthl => exact xthl_storesAt h
  | push => rw [exec_push] at h; rw [storeAddrs_push]; exact .of_store h State.push16_storesAt fun _ => rfl
  | pushPSW => exact .of_store h State.push16_storesAt fun _ => rfl
  | pop => rw [exec_pop] at h; rw [storeAddrs_pop]; exact .of_read h fun _ => State.pop16_mem
  | popPSW => exact .of_read h fun _ => State.pop16_mem
  | jcc =>
    rw [exec_jcc, jumpIf] at h
    rw [storeAddrs_jcc]
    split at h
    · exact .of_next h rfl
    · exact .of_next h rfl
  | ccc => rw [exec_ccc] at h; rw [storeAddrs_ccc]; exact callIf_storesAt h
  | rcc =>
    rw [exec_rcc, returnIf] at h
    rw [storeAddrs_rcc]
    split at h
    · exact returnFrom_storesNothing h
    · exact .of_next h rfl
  | call => exact callTo_storesAt h
  | rst => rw [exec_rst] at h; rw [storeAddrs_rst]; exact callTo_storesAt h
  | ret => exact returnFrom_storesNothing h
  | undoc08 | undoc10 | undoc18 | undoc20 | undoc28 | undoc30 | undoc38 =>
    exact undocumented_storesNothing noOperation_storesNothing h
  | undocCB => exact undocumented_storesNothing jumpAlias_storesNothing h
  | undocD9 => exact undocumented_storesNothing returnFrom_storesNothing h
  | undocDD | undocED | undocFD => exact undocumented_callAlias_storesAt h

/-- Settles O18: the addresses of the executed instruction, of the fetched one in a step, and none in a halted step. -/
theorem stepChangesAtMostTwoBytes : Obligations.StepChangesAtMostTwoBytes := by
  refine ⟨fun i s t h => ?_, fun s t h => ?_⟩
  · obtain ⟨hlength, hinside, hkeeps⟩ := exec_storesAt h
    exact ⟨hlength, hinside, hkeeps⟩
  · obtain ⟨hhalted, rfl⟩ | ⟨hrun, i, hfetch, hexec⟩ := step_eq_next h
    · exact ⟨fun _ => keepsMemBut_of_mem_eq rfl, fun hrun => by simp [hhalted] at hrun⟩
    · exact ⟨fun hhalted => by simp [hrun] at hhalted, fun _ => ⟨i, hfetch, (exec_storesAt hexec).keeps⟩⟩

end Sys2Proof.Machine

/-! ### Delivering an interrupt (60_exceptions.md R250 to R254)

Delivery is a push of `PC`, so it fits, faults and reads back as every push does. -/

namespace Sys2Proof.Machine

variable {s t : State} {vector : Int}

theorem requestInterrupt_invalid (h : vector < 0 ∨ 7 < vector) :
    requestInterrupt vector s = .fault (.invalidInterruptVector vector) := by
  rw [requestInterrupt, if_pos h]

theorem requestInterrupt_not_fits (hi : s.Inv = true) (h0 : 0 ≤ vector) (h7 : vector ≤ 7) (hinte : s.inte = true)
    (h : ¬ PushFits s) : requestInterrupt vector s = .fault (.outOfBoundsAccess (pushFaultAddr s)) := by
  rw [requestInterrupt_inte h0 h7 hinte, State.takeInterrupt, State.push16_not_fits s.pc hi h, andThen_error]

/-- What a delivered request does (60_exceptions.md R250). -/
def Delivers (vector : Int) (s t : State) : Prop :=
  Pushes s.pc s t ∧ (t.pc.toNat : Int) = 8 * vector ∧ t.inte = false ∧ t.result = .taken ∧ KeepsRegsBut [] s t ∧
    KeepsFlags s t ∧ t.halted = s.halted ∧ t.icount = s.icount ∧ KeepsIo s t

theorem requestInterrupt_delivers (hi : s.Inv = true) (h0 : 0 ≤ vector) (h7 : vector ≤ 7) (hinte : s.inte = true)
    (hfits : PushFits s) : ∃ t, requestInterrupt vector s = .next t ∧ Delivers vector s t := by
  have ⟨htwo, hsize⟩ := hfits
  have hpc : ((vectorAddr vector.toNat).toNat : Int) = 8 * vector := by
    rw [vectorAddr_toNat (by omega)]
    omega
  rw [requestInterrupt_inte h0 h7 hinte, s.takeInterrupt_fits _ htwo hsize, andThen_ok]
  exact ⟨_, rfl, pushes_of_writes hi hfits rfl rfl, hpc, rfl, rfl, keepsRegsBut_of_regs_eq rfl, rfl, rfl, rfl, rfl, rfl,
    rfl, rfl⟩

/-- Settles O9: one lemma per outcome, in the order of the checks (R248). -/
theorem interruptRequestIsDelivered : Obligations.InterruptRequestIsDelivered := fun _ _ hi =>
  ⟨requestInterrupt_invalid, fun ⟨h0, h7⟩ => requestInterrupt_dropped h0 h7,
    fun ⟨h0, h7⟩ => requestInterrupt_not_fits hi h0 h7, fun ⟨h0, h7⟩ => requestInterrupt_delivers hi h0 h7⟩

/-- Settles O10: delivery keeps `HALTED`, so every later step is one of a halted core. -/
theorem interruptDoesNotWakeAHaltedCore : Obligations.InterruptDoesNotWakeAHaltedCore := by
  refine fun s vector hi hhalted h0 h7 => ⟨fun hinte hfits => ?_, requestInterrupt_dropped h0 h7⟩
  obtain ⟨t, ht, hpush, hpc, hoff, -, -, -, hkeep, -⟩ := requestInterrupt_delivers hi h0 h7 hinte hfits
  have hstays : t.halted = true := hkeep.trans hhalted
  exact ⟨t, ht, hpush, hpc, hoff, hstays, State.afterAll_steps_of_halted hstays⟩

end Sys2Proof.Machine

/-! ### Popping what was pushed (60_exceptions.md R254; 70_reset_and_hazards.md R292)

A pop right after a push gives the word pushed and the old `SP`, whatever pushed it: a delivery, a call or a `PUSH`. -/

namespace Sys2Proof.Machine

variable {s t : State} {v : Word}

theorem pop16_after_push (hfits : PushFits s) (hpush : Pushes v s t) (hio : KeepsIo s t) :
    t.pop16 = .ok (v, t.setSp s.sp) := by
  obtain ⟨-, -, -, hcfg⟩ := hio
  obtain ⟨hpop, hv, hsp⟩ := pop_after_push hfits hpush hcfg
  rw [t.pop16_fits hpop, hv, hsp]

theorem exec_ret_after_push (hfits : PushFits s) (hpush : Pushes v s t) (hio : KeepsIo s t) :
    exec .ret t = .next ((t.setSp s.sp).retireTo v) := by
  rw [exec_taken_return (code := .z) (.inl rfl), State.returnFrom, pop16_after_push hfits hpush hio, andThen_ok]

/-- Settles O11: the return pops the `PC` that delivery pushed. -/
theorem returnFromInterruptRestoresPcAndSp : Obligations.ReturnFromInterruptRestoresPcAndSp := by
  intro s vector hi hinte hfits h0 h7
  obtain ⟨t, ht, hpush, -, hoff, -, hregs, hflags, -, -, hio⟩ := requestInterrupt_delivers hi h0 h7 hinte hfits
  exact ⟨t, _, ht, exec_ret_after_push hfits hpush hio, rfl, rfl, hoff, hregs, hflags⟩

/-- Settles O55: the return pops the address that the call pushed. -/
theorem callThenReturnGoesBack : Obligations.CallThenReturnGoesBack := by
  intro s w hi hfits
  obtain ⟨t, ht, hpush, hregs, hflags, -, hio, -, hicount, -⟩ :=
    push_inside (o := exec (.call w) s) (v := s.pc + 3) (target := fun _ => w) hi rfl hfits
  exact ⟨t, _, ht, exec_ret_after_push hfits hpush hio, rfl, rfl, hregs, hflags, congrArg (· + 1) hicount⟩

/-! #### `PUSH` and `POP` of one pair -/

/-- Writing the value a pair had changes no register. -/
theorem keepsRegsBut_setPair_pair {p : RegPair} (h : KeepsRegsBut [] s t) :
    KeepsRegsBut [] s (t.setPair p (s.pair p)) := by
  intro r hr
  by_cases hhi : r = hiReg p
  · rw [hhi, State.reg_setPair_hi, State.pair, hiByte_joinBytes]
  · by_cases hlo : r = loReg p
    · rw [hlo, State.reg_setPair_lo, State.pair, loByte_joinBytes]
    · rw [State.reg_setPair_ne _ _ hhi hlo, h r hr]

theorem push_then_pop (p : RegPair) (hi : s.Inv = true) (hfits : PushFits s) :
    ∃ t u, exec (Instr.push p) s = .next t ∧ exec (Instr.pop p) t = .next u ∧
      KeepsRegsBut [] s u ∧ KeepsFlags s u ∧ KeepsSp s u ∧ u.pc = s.pc + 2 ∧ u.icount = s.icount + 2 ∧
      u.mem.read (s.sp.toNat - 1) = s.reg (hiReg p) ∧ u.mem.read (s.sp.toNat - 2) = s.reg (loReg p) := by
  obtain ⟨t, ht, hpush, hregs, hflags, -, hio, hpc, hicount, -⟩ :=
    push_inside (target := (· + 1)) hi (exec_push s p) hfits
  have hpop : exec (Instr.pop p) t = .next (((t.setSp s.sp).setPair p (s.pair p)).retire 1) := by
    rw [exec_pop, popPair, pop16_after_push hfits hpush hio, andThen_ok]
  obtain ⟨hhigh, hlow, -, -⟩ := hpush
  refine ⟨t, _, ht, hpop, keepsRegsBut_setPair_pair (t := t.setSp s.sp) hregs, hflags, rfl, ?_,
    congrArg (· + 1) hicount, hhigh.trans (hiByte_joinBytes ..), hlow.trans (loByte_joinBytes ..)⟩
  rw [State.retire_pc, State.setPair_pc, State.setSp_pc, hpc, BitVec.add_assoc]
  rfl

/-- Writing the value a register had changes no register. -/
theorem keepsRegsBut_setReg_reg {r : Reg8} (h : KeepsRegsBut [] s t) : KeepsRegsBut [] s (t.setReg r (s.reg r)) := by
  intro j hj
  by_cases hr : j = r
  · rw [hr, State.reg_setReg_same]
  · rw [State.reg_setReg_ne _ _ hr, h j hj]

theorem pushPSW_then_popPSW (hi : s.Inv = true) (hfits : PushFits s) :
    ∃ t u, exec .pushPSW s = .next t ∧ exec .popPSW t = .next u ∧
      KeepsRegsBut [] s u ∧ KeepsFlags s u ∧ KeepsSp s u := by
  obtain ⟨t, ht, hpush, hregs, -, -, hio, -⟩ := push_inside (target := (· + 1)) hi (exec_pushPSW s) hfits
  have hpop : exec .popPSW t =
      .next ((((t.setSp s.sp).setReg .a (s.reg .a)).setFlags s.flags).retire 1) := by
    rw [exec_popPSW, pop16_after_push hfits hpush hio, andThen_ok, hiByte_joinBytes, loByte_joinBytes,
      flagsOfByte_flagByte]
  exact ⟨t, _, ht, hpop, keepsRegsBut_setReg_reg (t := t.setSp s.sp) hregs, rfl, rfl⟩

/-- Settles O56: the pop writes back what the push stored. -/
theorem pushThenPopKeepsRegistersFlagsAndSp : Obligations.PushThenPopKeepsRegistersFlagsAndSp := fun _ hi hfits =>
  ⟨fun p => push_then_pop p hi hfits, pushPSW_then_popPSW hi hfits⟩

end Sys2Proof.Machine
